-- ==== Sys2Proof/Word.lean ====
section
/-! DEFINITION. The plain words of the model: octets, two-octet numbers, and the fixed numberings of lines, drives,
slots, handles and copy contexts (00_scope.md, Conventions). -/

namespace Sys2Proof

/-- An octet: eight bits. -/
abbrev Byte := BitVec 8

/-- A two-octet number. -/
abbrev Word16 := BitVec 16

/-- A desk line, and the desk on it: 0 to 7, line 0 the supervisor line. -/
abbrev LineNo := Fin 8

/-- A drive: 0 to 3. -/
abbrev DriveNo := Fin 4

/-- A catalogue slot: 0 to 111 (R3). -/
abbrev SlotNo := Fin 112

/-- A handle of a desk. The spec numbers handles 1 to 4; the value `h` stands for handle number `h + 1` (R44). -/
abbrev HandleNo := Fin 4

/-- A copy context: 0 or 1 (R154). -/
abbrev ContextNo := Fin 2

/-- The twelve octets of a story name (R3, 1.2). -/
abbrev Slug := List Byte

/-- The octets of one sector, 512 of them (R1). -/
abbrev SectorData := List Byte

end Sys2Proof
end

