-- ==== Sys2Proof/Config.lean ====
section
/-! DEFINITION. What is fixed for the part: the geometry (R1), the counts of its tables, the limits the rules name,
and the one bound that is the model's own (`settleBound`). -/

namespace Sys2Proof.Config

/-- Sectors of a track (1.1). -/
def sectorsPerTrack : Nat := 15

/-- Octets of a sector (1.1). -/
def sectorOctets : Nat := 512

/-- Sectors of a diskette: LSN 0 to 2309 (R1). -/
def diskSectors : Nat := 2310

/-- The first LSN of the data area (R1). -/
def dataStart : Nat := 15

/-- Catalogue slots of a diskette (R3). -/
def slotCount : Nat := 112

/-- The most extents a story has (R18). -/
def maxExtents : Nat := 14

/-- The most sectors a story has, and the most one extent has (R18, R78). -/
def maxStory : Nat := 96

/-- The most notices a line's queue holds (R190). -/
def noticePlaces : Nat := 6

/-- The shortest and the longest good period of a revolution, in microseconds (R98: 161.7 to 171.7 ms). -/
def goodPeriodLow : Nat := 161700
/-- See `goodPeriodLow`. -/
def goodPeriodHigh : Nat := 171700

/-- The number of the last FORMAT position (R126). -/
def lastPosition : Nat := 154

/-- How many pieces of work that take no time the model does at one event at most; what would be left over is done at the next
command. DESIGN CHOICE, unsafe (log entry 3): far above what any event of a reachable state needs. -/
def settleBound : Nat := 1024

end Sys2Proof.Config
end

