-- ==== Sys2Proof/Syntax.lean ====
section
/-! DEFINITION. The commands of the part: one constructor of `Instr` for each row of spec/opcode_table.json, and the
types of what the read-data input and the receive-data input bring with an event. -/

namespace Sys2Proof

/-- A header field as the read circuit finds it (R7, R9): the seven octets header mark, cylinder, side, sector, size
code and two check octets, and whether a cell violation stood among them. -/
structure HeaderField where
  violation : Bool
  octets : List Byte
  deriving DecidableEq, Repr

/-- What the read circuit finds within the 128 cells after a header, and after that (R9): no data sync or mark, a cell
violation inside the data field, or the 515 octets of the field (mark, 512 data octets, two check octets) with the
number of one-cells that follow them. -/
inductive DataField where
  | notFound
  | violation
  | field (octets : List Byte) (postamble : Nat)
  deriving DecidableEq, Repr

/-- One sector frame that passed under the head (R7, R9). -/
structure SectorFrame where
  header : HeaderField
  data : DataField
  deriving DecidableEq, Repr

/-- What the read-data input carried in the revolution that an index pulse ends: the sector frames in the order they
passed, or the cells themselves (`true` a one-cell), which the model reads as R7 and R9 state. -/
inductive Reading where
  | frames (frames : List SectorFrame)
  | cells (cells : List Bool)
  deriving DecidableEq, Repr

/-- What the receiver gathered between two flags (R169, R170): whole octets and a number of spare bits after them, or
the bits of the line with the inserted zeros still in place. -/
inductive Received where
  | octets (octets : List Byte) (spare : Nat)
  | bits (bits : List Bool)
  deriving DecidableEq, Repr

/-- The commands, in the order of spec/opcode_table.json. A desk's request is a whole good frame arriving on the
desk's line: opening flag, octets, closing flag; its operands are the octets of the body as R13 lays it out. -/
inductive Instr where
  /-- HARDWARE_RESET (R96). -/
  | hardwareReset
  /-- FRAME_END (R170): a flag ends the frame whose bits have been gathered on the line. -/
  | frameEnd (line : LineNo) (received : Received)
  /-- FRAME_ABORT (R170). -/
  | frameAbort (line : LineNo)
  /-- FLAG_SEEN (R179): a flag with no frame bits gathered before it. -/
  | flagSeen (line : LineNo)
  /-- DESK_READY_CHANGE (R174): the desk ready input becomes `on`. -/
  | deskReadyChange (line : LineNo) (on : Bool)
  /-- FRAME_SENT (R173): the closing flag of the frame being sent has been sent. -/
  | frameSent (line : LineNo)
  /-- SILENCE_TIMER_EXPIRY (R180). -/
  | silenceTimerExpiry (line : LineNo)
  /-- FIND (R32), kind 0x01. -/
  | find (line : LineNo) (tag qualifier : Byte) (slug : List Byte)
  /-- LIST (R33), kind 0x02. -/
  | list (line : LineNo) (tag drive fromSlot : Byte)
  /-- OPEN (R49), kind 0x03. -/
  | openStory (line : LineNo) (tag qualifier : Byte) (slug : List Byte) (mode wait : Byte)
  /-- CLOSE (R57), kind 0x04. -/
  | close (line : LineNo) (tag handle : Byte)
  /-- CREATE (R31), kind 0x05. -/
  | create (line : LineNo) (tag drive : Byte) (slug : List Byte)
  /-- READ (R86), kind 0x06. -/
  | read (line : LineNo) (tag handle index : Byte)
  /-- WRITE (R87), kind 0x07. -/
  | write (line : LineNo) (tag handle index : Byte) (count : Word16) (commit : Byte) (data : List Byte)
  /-- TRIM (R92), kind 0x08. -/
  | trim (line : LineNo) (tag handle length : Byte) (tail : Word16)
  /-- STAGE (R34), kind 0x09. -/
  | stage (line : LineNo) (tag handle stage : Byte)
  /-- PURGE (R35), kind 0x0A. -/
  | purge (line : LineNo) (tag handle : Byte)
  /-- COPY (R156), kind 0x0B. -/
  | copy (line : LineNo) (tag handle drive : Byte) (slug : List Byte)
  /-- HALT (R186), kind 0x0C. -/
  | halt (line : LineNo) (tag : Byte)
  /-- CLEAR (R187), kind 0x0D. -/
  | clear (line : LineNo) (tag : Byte)
  /-- STATUS (R194), kind 0x0E. -/
  | status (line : LineNo) (tag : Byte)
  /-- VOLUME (R195), kind 0x0F. -/
  | volume (line : LineNo) (tag drive : Byte)
  /-- MASK (R193), kind 0x10. -/
  | mask (line : LineNo) (tag : Byte) (mask : Word16)
  /-- BREAK (R61), kind 0x18. -/
  | breakClaim (line : LineNo) (tag drive slot : Byte)
  /-- RELEASE (R114), kind 0x19. -/
  | release (line : LineNo) (tag drive force : Byte)
  /-- MOUNT (R105), kind 0x1A. -/
  | mount (line : LineNo) (tag drive : Byte)
  /-- FORMAT (R124), kind 0x1B. -/
  | format (line : LineNo) (tag drive : Byte) (name : List Byte) (serial : Word16)
  /-- RECOVER (R121), kind 0x1C. -/
  | recover (line : LineNo) (tag drive : Byte)
  /-- DISCARD (R123), kind 0x1D. -/
  | discard (line : LineNo) (tag drive : Byte)
  /-- SETUP (R197), kind 0x1E. -/
  | setup (line : LineNo) (tag stepInterval headSettle unload dirtyAge readRetries : Byte) (claimWait : Word16) (deskSilence : Byte)
  /-- DROP (R36), kind 0x1F. -/
  | drop (line : LineNo) (tag drive slot : Byte)
  /-- READY_RISE (R103): the ready line rises; `protect` is the level of the write-protect line. With the ready line already up it
  brings the level alone (log entry 8). -/
  | readyRise (drive : DriveNo) (protect : Bool)
  /-- READY_FALL (R116). -/
  | readyFall (drive : DriveNo)
  /-- INDEX_PULSE (R98): `period` is the time since the last index pulse in microseconds, `reading` what the read-data
  input carried in the revolution the pulse ends. -/
  | indexPulse (drive : DriveNo) (period : Nat) (reading : Reading)
  /-- INDEX_TIMEOUT (R99): 500 ms have passed with no index pulse. -/
  | indexTimeout (drive : DriveNo)
  /-- SPIN_UP_TIMER_EXPIRY (R103, R121). -/
  | spinUpTimerExpiry (drive : DriveNo)
  /-- RELEASE_BUTTON (R114). -/
  | releaseButton (drive : DriveNo)
  /-- WRITE_FAULT_LINE (R148, R150): the write-fault line comes on. -/
  | writeFaultLine (drive : DriveNo)
  /-- SEEK_COMPLETE (R100): the head settle of a seek has ended. -/
  | seekComplete (drive : DriveNo)
  /-- RECALIBRATION_COMPLETE (R101): `found` when the track-0 sensor came on and the settle has ended, not `found` when
  it is still off after 80 steps. -/
  | recalibrationComplete (drive : DriveNo) (found : Bool)
  /-- FLUSH_SECTOR_WRITTEN (R145): the rewrite of the data field that follows `header`, as the read circuit found that header, has
  ended. -/
  | flushSectorWritten (drive : DriveNo) (header : HeaderField)
  /-- WAIT_TIMER_EXPIRY (R54): the timer of the waiter that waits through the desk's handle runs out. -/
  | waitTimerExpiry (desk : LineNo) (handle : HandleNo)
  /-- FRAME_TOO_LONG (R170): the 527th octet of a received frame completes. -/
  | frameTooLong (line : LineNo)
  deriving DecidableEq, Repr

end Sys2Proof
end

