-- ==== Sys2Proof/Machine/State.lean ====
section
/-! DEFINITION. The state of the part as plain data: desk line units, desks (handles, outstanding request), drive units
with their track buffers, the Story Table with the space maps, the recording channel, the copy contexts and the setup
table; the queue of commands that wait; and the reset state. -/

namespace Sys2Proof.Machine

/-! ## Frames, answers and notices -/

/-- A good received frame, check octets removed (R11). -/
structure Frame where
  kind : Byte
  tag : Byte
  length : Word16
  body : List Byte
  deriving DecidableEq, Repr

/-- The outcomes of R188. -/
inductive Outcome where
  | done | queued | halted | idle
  | unknown | malformed | notPermitted | busy | held
  | noVolume | closing | writeProtected | driveFault | drivesActive | inUse
  | noStory | duplicate | catalogueFull | wrongStage | stageLocked
  | claimed | alreadyOpen | noHandle | badHandle | lost | broken
  | badIndex | partialTail | storyFull | fragmented | volumeFull | copyActive
  | medium | writeFault | volumeLost | engineBusy
  deriving DecidableEq, Repr

/-- An answer (R14): the tag of its request, its outcome, the flags octet as the flags stood when it was produced, and
the result octets. -/
structure Answer where
  tag : Byte
  outcome : Outcome
  flags : Byte
  results : List Byte
  deriving DecidableEq, Repr

/-- Causes of a fault (R118). -/
inductive FaultCause where
  | speed | seek | write
  deriving DecidableEq, Repr

/-- Origin of a fault (R118). -/
inductive FaultOrigin where
  | mountedVolume | noVolume
  deriving DecidableEq, Repr

/-- The notices with their operands as filled at production (R15). A handle set is the octet of R15. -/
inductive Notice where
  | granted (handle : HandleNo) (drive : DriveNo) (slot : SlotNo)
  | expired (handle : HandleNo) (drive : DriveNo) (slot : SlotNo)
  | broken (handle : HandleNo) (drive : DriveNo) (slot : SlotNo)
  | lost (drive : DriveNo) (handles : Byte)
  | withdrawn (handle : HandleNo) (drive : DriveNo) (slot : SlotNo)
  | releasePending (drive : DriveNo) (handles : Byte)
  | mounted (drive : DriveNo) (serial : Word16) (name : List Byte) (protect : Bool)
  | gone (drive : DriveNo) (lostCount : Nat)
  | fault (drive : DriveNo) (cause : FaultCause) (origin : FaultOrigin)
  deriving DecidableEq, Repr

/-! ## Desk line units (R176) -/

/-- Line states (R176). -/
inductive LineState where
  | down | upIdle | upBusy | held
  deriving DecidableEq, Repr

/-- The frame in a receive slot; `taken` for the frame of a taken WRITE whose data waits for its item (R171, R172). -/
structure ReceiveSlot where
  frame : Frame
  taken : Bool
  deriving DecidableEq, Repr

/-- The receiver's condition (R170). -/
inductive Receiver where
  | hunting | inFrame
  deriving DecidableEq, Repr

/-- What the transmitter is sending (R174): the answer of the answer slot or the notice at the head of the queue. -/
inductive Sending where
  | answer | notice
  deriving DecidableEq, Repr

/-- The three sticky flags (R175). -/
structure LineFlags where
  overrun : Bool
  noticeLost : Bool
  frameError : Bool
  deriving DecidableEq, Repr

/-- The record of a desk line unit (R176) with its desk ready input and the frame its transmitter has begun (R174). The
notice mask has bit `c - 1` for notice code `c`. The silence timer holds the length in seconds it started with. -/
structure LineUnit where
  state : LineState
  receiveSlot : Option ReceiveSlot
  answerSlot : Option Answer
  pendingAnswer : Option Answer
  notices : List Notice
  mask : BitVec 9
  flags : LineFlags
  silence : Option Nat
  receiver : Receiver
  deskReady : Bool
  sending : Option Sending
  deriving DecidableEq, Repr

/-! ## Desks: handles and the outstanding request -/

/-- Mode of a handle (R44). -/
inductive Mode where
  | read | edit
  deriving DecidableEq, Repr

/-- A handle (R44): READ, EDIT and WAITING fix the mode; LOST keeps the mode the handle had. -/
inductive Handle where
  | free
  | read (drive : DriveNo) (slot : SlotNo)
  | edit (drive : DriveNo) (slot : SlotNo)
  | waiting (drive : DriveNo) (slot : SlotNo)
  | lost (drive : DriveNo) (slot : SlotNo) (mode : Mode)
  deriving DecidableEq, Repr

/-- The kinds of request that may be outstanding (R178). -/
inductive OutstandingKind where
  | read | write | close | copy | format | recover
  deriving DecidableEq, Repr

/-- The outstanding request record (R178). The owner that is to answer it follows from the kind (R185). -/
structure Outstanding where
  kind : OutstandingKind
  tag : Byte
  deriving DecidableEq, Repr

/-- Work a desk left in progress when its line went DOWN (R181). -/
inductive Leftover where
  | sectorItem | format | recover
  deriving DecidableEq, Repr

/-- What the claim unit and the dispatcher hold for one desk (R44, R178, R181). -/
structure Desk where
  handles : Vector Handle 4
  outstanding : Option Outstanding
  leftover : Option Leftover
  deriving DecidableEq, Repr

/-! ## The Story Table and the space maps -/

/-- Stages (R20). -/
inductive Stage where
  | copy | edit | ready | set | spiked
  deriving DecidableEq, Repr

/-- Uses of an entry (R17). A DAMAGED entry keeps the stage octet read from its slot (R17, R33). -/
inductive Use where
  | free | live | damaged (stageOctet : Byte) | filling
  deriving DecidableEq, Repr

/-- An extent: start LSN and count (R72). -/
structure Extent where
  start : Nat
  count : Nat
  deriving DecidableEq, Repr

/-- A place on a wait list: the desk, and the length in seconds its running timer started with (R52, R53). -/
structure Waiter where
  desk : LineNo
  seconds : Nat
  deriving DecidableEq, Repr

/-- An entry of the Story Table (2.1). Drive and slot are its place; extent count and length follow from the extents
(R18). `bound` is the binding of a LIVE entry: the slug index binds the slug to the entry (R21). -/
structure Entry where
  use : Use
  stage : Stage
  slug : Slug
  extents : List Extent
  tail : Nat
  revision : Word16
  lastWriter : Option LineNo
  bound : Bool
  changed : Bool
  copyReaders : Nat
  editHolder : Option LineNo
  readers : Vector Bool 8
  waiters : List Waiter
  deriving DecidableEq, Repr

/-- An entry that is FREE (R17). -/
def Entry.free : Entry where
  use := .free
  stage := .copy
  slug := []
  extents := []
  tail := 0
  revision := 0
  lastWriter := none
  bound := false
  changed := false
  copyReaders := 0
  editHolder := none
  readers := Vector.replicate 8 false
  waiters := []

/-- Who waits for a catalogue write (R41): a committing CLOSE of a desk, or a copy context. -/
inductive CatalogueWaiter where
  | desk (desk : LineNo)
  | context (context : ContextNo)
  deriving DecidableEq, Repr

/-- What the part holds for a volume with a catalogue: the volume record (name, serial, generation, stale mark), the two
lists of the catalogue-write record (R41; whether an item is queued is read from the drive's work queue, R38), the 112
entries, and the space map (R74; bit `n` of `marks` is the mark of LSN `n`, set when used). -/
structure Volume where
  name : List Byte
  serial : Word16
  generation : BitVec 32
  stale : Bool
  nextRender : List CatalogueWaiter
  flushList : List CatalogueWaiter
  entries : List Entry
  marks : BitVec 2310
  freeCount : Nat
  cursor : Nat
  deriving DecidableEq, Repr

/-! ## Drive units (R96) and track buffers (R129) -/

/-- Volume statuses (R97). -/
inductive VolumeStatus where
  | none | spinUp | mounting | mounted | releasing | formatting | foreign | unlocked | faulted
  deriving DecidableEq, Repr

/-- What the recording channel is asked for (R135). -/
inductive Purpose where
  | fill | flush | lay
  deriving DecidableEq, Repr

/-- Head statuses (R96): `wait p` is WAIT-CHANNEL(p), `run p` is the job p. -/
inductive HeadStatus where
  | unloaded | seek | wait (purpose : Purpose) | run (purpose : Purpose) | opened
  deriving DecidableEq, Repr

/-- The fault record (R96). -/
structure FaultRecord where
  cause : FaultCause
  origin : FaultOrigin
  deriving DecidableEq, Repr

/-- The index measurement (R98): good run, bad run, and whether a pulse has been seen since it was cleared. -/
structure Measurement where
  good : Nat
  bad : Nat
  seen : Bool
  deriving DecidableEq, Repr

/-- Why a sector is BAD (R129). -/
inductive MediumCause where
  | code | dataCrc | postamble | missing
  deriving DecidableEq, Repr

/-- A sector record (R129); a BAD record's octets are zero and reach nobody (R131). -/
inductive SectorRecord where
  | clean (octets : SectorData)
  | dirty (octets : SectorData)
  | bad (cause : MediumCause)
  deriving DecidableEq, Repr

/-- The track buffer (R129). The record of sector `n` is at position `n - 1`. The dirty count is the number of DIRTY
records (R132); commit waiters exist only in an OPEN buffer (R133). -/
inductive Buffer where
  | empty
  | opened (track : Nat) (records : List SectorRecord) (commitWaiters : List LineNo)
  | retained (track : Nat) (records : List SectorRecord)
  deriving DecidableEq, Repr

/-- What the head is doing while its status is SEEK: a recalibration (R101) or a seek to `target` by `steps` steps
(R100), with the step interval and head settle, in milliseconds, taken at its beginning (R196). -/
inductive Motion where
  | still
  | recalibrating (interval settle : Nat)
  | seeking (target steps interval settle : Nat)
  deriving DecidableEq, Repr

/-- A RECOVER in progress (R121): in its spin check, or past it with the speed monitor armed. -/
inductive RecoverPhase where
  | spinCheck | running
  deriving DecidableEq, Repr

/-- The work of a work item (R82, R106). A SECTOR-WRITE's data stays in the desk's receive slot (`data` none) until the
desk's line goes DOWN and hands it to the item (R181). -/
inductive Work where
  | sectorRead (desk : LineNo) (handle : HandleNo) (slot : SlotNo) (index lsn : Nat)
  | sectorWrite (desk : LineNo) (handle : HandleNo) (slot : SlotNo) (index lsn count : Nat) (commit : Bool)
      (data : Option (List Byte))
  | copyRead (context : ContextNo) (slot : SlotNo) (index track : Nat)
  | copyWrite (context : ContextNo) (slot : SlotNo) (index track : Nat)
  | catalogueWrite
  | release
  | format (name : List Byte) (serial : Word16) (position : Nat) (halt : Bool)
  deriving DecidableEq, Repr

/-- A work item: its work, and whether the drive has taken it up (R107). -/
structure WorkItem where
  work : Work
  begun : Bool
  deriving DecidableEq, Repr

/-- The burst the write-data output last carried or carries: the rewrite of a data field (R10), or a laid track with the contents of
its 15 sectors (R8); `turn` is the length of the LAY's revolution in cells, once the index pulse that closes the gate has come. The
cells of a burst are computed (Recording.lean). -/
inductive WriteBurst where
  | rewrite (track sector : Nat) (octets : SectorData)
  | lay (track : Nat) (contents : List SectorData) (turn : Option Nat)
  deriving DecidableEq, Repr

/-- The record of a drive unit (R96) with its track buffer, its level inputs ready and write protect, its write-data
output, and what the head movement, RECOVER and FORMAT in progress have to remember: `goal` is the track the drive is
moving to (R107), `unloading` an unload flush not given up (R111), `formatMount` a FORMAT not yet answered in the
MOUNTING that ends it (R127). Counts are `none` while stopped. -/
structure Drive where
  status : VolumeStatus
  head : HeadStatus
  cylinder : Option Nat
  protect : Bool
  fault : Option FaultRecord
  measurement : Measurement
  spinUpTimer : Bool
  unloadCount : Option Nat
  dirtyAge : Option Nat
  reseek : Bool
  queue : List WorkItem
  doorLock : Bool
  buffer : Buffer
  motion : Motion
  goal : Option Nat
  unloading : Bool
  recover : Option RecoverPhase
  formatMount : Bool
  ready : Bool
  writeProtect : Bool
  writeData : Option WriteBurst
  deriving DecidableEq, Repr

/-! ## The recording channel (R135) -/

/-- A sector's result so far in a FILL (R141): no matching header yet, good, or the cause of its last failed reading. -/
inductive SectorResult where
  | unread
  | good (octets : SectorData)
  | bad (cause : MediumCause)
  deriving DecidableEq, Repr

/-- A job with its track and progress (R135). FILL: the retries setting it took, the revolution it is in (0 before the
first index pulse) and each sector's result. FLUSH: the sectors still to be written and the index pulses since the
grant. LAY: whether the write gate has opened. -/
inductive Job where
  | fill (track retries revolution : Nat) (results : List SectorResult)
  | flush (track : Nat) (toWrite : List Nat) (pulses : Nat)
  | lay (track : Nat) (gate : Bool)
  deriving DecidableEq, Repr

/-- The recording channel (R135): the holder with its job, and the last-granted drive. The waiting drives are those
whose head status is WAIT-CHANNEL. -/
structure Channel where
  holder : Option (DriveNo × Job)
  lastGranted : DriveNo
  deriving DecidableEq, Repr

/-! ## The copy engine (R154) and the setup table (R196) -/

/-- Phases of a copy context (R154). -/
inductive CopyPhase where
  | free | readStep | writeStep | commitWait
  deriving DecidableEq, Repr

/-- A copy context (R154). -/
structure CopyContext where
  phase : CopyPhase
  desk : LineNo
  handle : HandleNo
  sourceDrive : DriveNo
  sourceSlot : SlotNo
  destDrive : DriveNo
  destSlot : SlotNo
  length : Nat
  next : Nat
  staging : SectorData
  halt : Bool
  wanted : Bool
  deriving DecidableEq, Repr

/-- The setup table (R196): milliseconds, revolutions, retries and seconds as the rule gives them. -/
structure Setup where
  stepInterval : Nat
  headSettle : Nat
  unload : Nat
  dirtyAge : Nat
  readRetries : Nat
  claimWait : Nat
  deskSilence : Nat
  deriving DecidableEq, Repr

/-! ## The whole -/

/-- The state of the part. `choices` is the model's own field (log entry 2): where the spec lets several things of one
event be taken in either order, the next number of this list says which is taken first; the empty list reads as 0s.
`pending` is the queue of commands, first in, first out. -/
structure State where
  lines : Vector LineUnit 8
  desks : Vector Desk 8
  drives : Vector Drive 4
  volumes : Vector (Option Volume) 4
  channel : Channel
  contexts : Vector CopyContext 2
  setup : Setup
  choices : List Nat
  pending : List Instr
  deriving DecidableEq, Repr

/-- How a command may stop the machine: in no way. The spec names no command that stops the part, so this type has no
constructor and nothing raises it. Safe. -/
inductive Fault where
  deriving DecidableEq, Repr

/-- How a command may be refused. -/
inductive Refusal where
  /-- Raised only by an arm of `exec` for a row that has no meaning yet; no arm raises it now. Safe. -/
  | notModelled (mnemonic : String)
  deriving DecidableEq, Repr

/-! ## Reset values -/

/-- A line unit after hardware reset (R176); the desk ready input is off (DESIGN CHOICE, log entry 5). -/
def LineUnit.reset : LineUnit where
  state := .down
  receiveSlot := none
  answerSlot := none
  pendingAnswer := none
  notices := []
  mask := BitVec.allOnes 9
  flags := ⟨false, false, false⟩
  silence := none
  receiver := .hunting
  deskReady := false
  sending := none

/-- A desk after hardware reset (R44, R178). -/
def Desk.reset : Desk where
  handles := Vector.replicate 4 .free
  outstanding := none
  leftover := none

/-- A drive unit after hardware reset (R96, R129); no diskette is in the drive (DESIGN CHOICE, log entry 5). -/
def Drive.reset : Drive where
  status := .none
  head := .unloaded
  cylinder := none
  protect := false
  fault := none
  measurement := ⟨0, 0, false⟩
  spinUpTimer := false
  unloadCount := none
  dirtyAge := none
  reseek := false
  queue := []
  doorLock := false
  buffer := .empty
  motion := .still
  goal := none
  unloading := false
  recover := none
  formatMount := false
  ready := false
  writeProtect := false
  writeData := none

/-- The recording channel after hardware reset (R135). -/
def Channel.reset : Channel where
  holder := none
  lastGranted := 3

/-- A copy context that is FREE, its staging sector and flags cleared (R154, R163). -/
def CopyContext.reset : CopyContext where
  phase := .free
  desk := 0
  handle := 0
  sourceDrive := 0
  sourceSlot := 0
  destDrive := 0
  destSlot := 0
  length := 0
  next := 0
  staging := List.replicate 512 0
  halt := false
  wanted := false

/-- The setup table after hardware reset (R196). -/
def Setup.reset : Setup where
  stepInterval := 6
  headSettle := 20
  unload := 12
  dirtyAge := 60
  readRetries := 2
  claimWait := 45
  deskSilence := 8

/-- The part right after hardware reset with every drive empty. -/
def State.reset : State where
  lines := Vector.replicate 8 LineUnit.reset
  desks := Vector.replicate 8 Desk.reset
  drives := Vector.replicate 4 Drive.reset
  volumes := Vector.replicate 4 none
  channel := Channel.reset
  contexts := Vector.replicate 2 CopyContext.reset
  setup := Setup.reset
  choices := []
  pending := []

end Sys2Proof.Machine
end

