-- ==== Sys2Proof/Machine/Ops.lean ====
section
/-! DEFINITION. The named operations through which every rule reads and changes the state: lines, desks, handles, drives,
volumes, entries and copy contexts, the fixed lists of them, and the order choice. -/

namespace Sys2Proof.Machine

/-! ## The fixed numberings -/

/-- Lines 0 to 7. -/
def allLines : List LineNo := [0, 1, 2, 3, 4, 5, 6, 7]

/-- Drives 0 to 3. -/
def allDrives : List DriveNo := [0, 1, 2, 3]

/-- Handles 1 to 4, as positions 0 to 3. -/
def allHandles : List HandleNo := [0, 1, 2, 3]

/-- Copy contexts 0 and 1. -/
def allContexts : List ContextNo := [0, 1]

/-- Slots 0 to 111, ascending. -/
def allSlots : List SlotNo := List.finRange 112

/-! ## Lines -/

/-- The line unit of line `l`. -/
def State.line (s : State) (l : LineNo) : LineUnit := s.lines.get l

/-- Replace the line unit of line `l`. -/
def State.setLine (s : State) (l : LineNo) (x : LineUnit) : State := { s with lines := s.lines.set l x l.isLt }

/-- Change the line unit of line `l`. -/
def State.onLine (s : State) (l : LineNo) (f : LineUnit → LineUnit) : State := s.setLine l (f (s.line l))

/-! ## Desks and handles -/

/-- The record of desk `l`. -/
def State.desk (s : State) (l : LineNo) : Desk := s.desks.get l

/-- Replace the record of desk `l`. -/
def State.setDesk (s : State) (l : LineNo) (x : Desk) : State := { s with desks := s.desks.set l x l.isLt }

/-- Change the record of desk `l`. -/
def State.onDesk (s : State) (l : LineNo) (f : Desk → Desk) : State := s.setDesk l (f (s.desk l))

/-- A handle of desk `l`. -/
def State.handle (s : State) (l : LineNo) (h : HandleNo) : Handle := (s.desk l).handles.get h

/-- Give a handle of desk `l` a new record. -/
def State.setHandle (s : State) (l : LineNo) (h : HandleNo) (x : Handle) : State :=
  s.onDesk l fun k => { k with handles := k.handles.set h x h.isLt }

/-! ## Drives -/

/-- The record of drive `d`. -/
def State.drive (s : State) (d : DriveNo) : Drive := s.drives.get d

/-- Replace the record of drive `d`. -/
def State.setDrive (s : State) (d : DriveNo) (x : Drive) : State := { s with drives := s.drives.set d x d.isLt }

/-- Change the record of drive `d`. -/
def State.onDrive (s : State) (d : DriveNo) (f : Drive → Drive) : State := s.setDrive d (f (s.drive d))

/-- The door lock is held exactly in these statuses (R97). -/
def VolumeStatus.locksDoor : VolumeStatus → Bool
  | .spinUp | .mounting | .mounted | .releasing | .formatting | .faulted => true
  | .none | .foreign | .unlocked => false

/-- Change a drive's volume status; the door lock follows at the same event (R97). -/
def Drive.withStatus (x : Drive) (v : VolumeStatus) : Drive := { x with status := v, doorLock := v.locksDoor }

/-- The drive is faulted. -/
def State.faulted (s : State) (d : DriveNo) : Bool := (s.drive d).status == .faulted

/-! ## Volumes and entries -/

/-- What the part holds for the volume in drive `d`, if the drive has a catalogue (R16). -/
def State.volume (s : State) (d : DriveNo) : Option Volume := s.volumes.get d

/-- Replace what is held for drive `d`. -/
def State.setVolume (s : State) (d : DriveNo) (x : Option Volume) : State :=
  { s with volumes := s.volumes.set d x d.isLt }

/-- Change the volume of drive `d`; nothing changes where the drive has none. -/
def State.onVolume (s : State) (d : DriveNo) (f : Volume → Volume) : State := s.setVolume d ((s.volume d).map f)

/-- The entry of a slot. -/
def Volume.entry (v : Volume) (slot : SlotNo) : Entry := v.entries.getD slot Entry.free

/-- Replace the entry of a slot. -/
def Volume.setEntry (v : Volume) (slot : SlotNo) (e : Entry) : Volume := { v with entries := v.entries.set slot e }

/-- The entry of a slot of the volume in drive `d`; a FREE one where the drive has no catalogue. -/
def State.entry (s : State) (d : DriveNo) (slot : SlotNo) : Entry :=
  match s.volume d with
  | none => Entry.free
  | some v => v.entry slot

/-- Change the entry of a slot of the volume in drive `d`. -/
def State.onEntry (s : State) (d : DriveNo) (slot : SlotNo) (f : Entry → Entry) : State :=
  s.onVolume d fun v => v.setEntry slot (f (v.entry slot))

/-- The length of a story: the sum of its extent counts (R18). -/
def Entry.length (e : Entry) : Nat := (e.extents.map Extent.count).sum

/-- The entry is LIVE. -/
def Entry.isLive (e : Entry) : Bool := e.use == .live

/-- The entry is LIVE or FILLING, the uses that hold a slug on their volume (R21). -/
def Entry.holdsSlug (e : Entry) : Bool := e.use == .live || e.use == .filling

/-- How many desks read the story (R32). -/
def Entry.readerCount (e : Entry) : Nat := e.readers.toList.count true

/-- Put a desk into, or take it out of, the reader set (R47). -/
def Entry.setReader (e : Entry) (l : LineNo) (reads : Bool) : Entry := { e with readers := e.readers.set l reads l.isLt }

/-! ## Copy contexts -/

/-- A copy context. -/
def State.context (s : State) (c : ContextNo) : CopyContext := s.contexts.get c

/-- Replace a copy context. -/
def State.setContext (s : State) (c : ContextNo) (x : CopyContext) : State :=
  { s with contexts := s.contexts.set c x c.isLt }

/-- Change a copy context. -/
def State.onContext (s : State) (c : ContextNo) (f : CopyContext → CopyContext) : State :=
  s.setContext c (f (s.context c))

/-- A context in READ-STEP or WRITE-STEP carries a copy in progress (R154, R155). -/
def CopyContext.inProgress (x : CopyContext) : Bool := x.phase == .readStep || x.phase == .writeStep

/-- A context that uses drive `d` as source or destination (R155). -/
def CopyContext.uses (x : CopyContext) (d : DriveNo) : Bool :=
  x.inProgress && (x.sourceDrive == d || x.destDrive == d)

/-! ## The order choice -/

/-- The next order choice, and the state with it taken off the list (log entry 2). -/
def State.popChoice (s : State) : Nat × State :=
  match s.choices with
  | [] => (0, s)
  | n :: rest => (n, { s with choices := rest })

end Sys2Proof.Machine
end

