-- ==== Sys2Proof/Machine/Octets.lean ====
section
/-! DEFINITION. Octet order and bit order: numbers of several octets, high octet first (01_recorded_formats.md), the two
orders in which bits travel, and the check sequence of R6. -/

namespace Sys2Proof.Machine

/-! ## Numbers -/

/-- One octet of a number that fits one octet. -/
def octet (n : Nat) : Byte := BitVec.ofNat 8 n

/-- Two octets, high octet first. -/
def octets2 (n : Nat) : List Byte := [octet (n / 256), octet n]

/-- Four octets, high octet first. -/
def octets4 (n : Nat) : List Byte := octets2 (n / 65536) ++ octets2 n

/-- The number of several octets, high octet first. -/
def number (os : List Byte) : Nat := os.foldl (fun n b => 256 * n + b.toNat) 0

/-- The octet at a position; 0 past the end. -/
def octetAt (os : List Byte) (i : Nat) : Byte := os.getD i 0

/-- `count` octets from position `from_`. -/
def octetsAt (os : List Byte) (start count : Nat) : List Byte := (os.drop start).take count

/-- Octets filled with zeros up to `n`, and cut there. -/
def padTo (n : Nat) (os : List Byte) : List Byte := (os ++ List.replicate (n - os.length) 0).take n

/-! ## Bits in the order in which they travel (R6) -/

/-- The bits of an octet, most significant first, as on the medium. -/
def bitsHigh (b : Byte) : List Bool :=
  [b.getLsbD 7, b.getLsbD 6, b.getLsbD 5, b.getLsbD 4, b.getLsbD 3, b.getLsbD 2, b.getLsbD 1, b.getLsbD 0]

/-- The bits of an octet, least significant first, as on the desk lines. -/
def bitsLow (b : Byte) : List Bool :=
  [b.getLsbD 0, b.getLsbD 1, b.getLsbD 2, b.getLsbD 3, b.getLsbD 4, b.getLsbD 5, b.getLsbD 6, b.getLsbD 7]

/-- An octet from bits given least significant first. -/
def octetOfLow (bits : List Bool) : Byte :=
  octet (bits.foldr (fun b n => 2 * n + (if b then 1 else 0)) 0)

/-- An octet from bits given most significant first. -/
def octetOfHigh (bits : List Bool) : Byte := octetOfLow bits.reverse

/-! ## The check sequence (R6) -/

/-- The division by x^16 + x^12 + x^5 + 1: the remainder register after the bits, from the register before them. -/
def divide (r : BitVec 16) : List Bool → BitVec 16
  | [] => r
  | b :: bs => if r.msb != b then divide ((r <<< 1) ^^^ 0x1021#16) bs else divide (r <<< 1) bs

/-- The remainder over octets in the order of the medium, the register preset to all ones. -/
def remainderMedium (os : List Byte) : BitVec 16 := divide 0xFFFF#16 (os.flatMap bitsHigh)

/-- The remainder over octets in the order of the desk lines. -/
def remainderLine (os : List Byte) : BitVec 16 := divide 0xFFFF#16 (os.flatMap bitsLow)

/-- The sixteen coefficients of a remainder, from x^15 to x^0. -/
def coefficients (r : BitVec 16) : List Bool :=
  bitsHigh (r.extractLsb' 8 8) ++ bitsHigh (r.extractLsb' 0 8)

/-- The check octets on the medium and in a catalogue slot: x^15 first, in the medium's order. -/
def checkMedium (os : List Byte) : List Byte :=
  let c := coefficients (remainderMedium os)
  [octetOfHigh (c.take 8), octetOfHigh (c.drop 8)]

/-- The check octets of a desk frame: x^15 first, in the line's order. -/
def checkLine (os : List Byte) : List Byte :=
  let c := coefficients (remainderLine os)
  [octetOfLow (c.take 8), octetOfLow (c.drop 8)]

/-- A field with its check octets is good on the medium (R6). -/
def goodMedium (field : List Byte) : Bool := remainderMedium field == 0#16

/-- A frame with its check octets is good on the line (R6). -/
def goodLine (field : List Byte) : Bool := remainderLine field == 0#16

end Sys2Proof.Machine
end

