-- ==== Sys2Proof/Machine/Flags.lean ====
section
/-! DEFINITION. The sticky line flags (R175) and their octet (R14), the notice mask (R193) and handle sets (R15). -/

namespace Sys2Proof.Machine

/-- All three flags clear (R176). -/
def LineFlags.clear : LineFlags := ⟨false, false, false⟩

/-- The line flags octet: bit 0 OVERRUN, bit 1 NOTICE-LOST, bit 2 FRAME-ERROR (R14). -/
def LineFlags.octet (f : LineFlags) : Byte :=
  Machine.octet ((if f.overrun then 1 else 0) + (if f.noticeLost then 2 else 0) + (if f.frameError then 4 else 0))

/-- OVERRUN is set (R171, R175). -/
def LineUnit.setOverrun (x : LineUnit) : LineUnit := { x with flags := { x.flags with overrun := true } }

/-- NOTICE-LOST is set (R190, R192). -/
def LineUnit.setNoticeLost (x : LineUnit) : LineUnit := { x with flags := { x.flags with noticeLost := true } }

/-- FRAME-ERROR is set (R170, R175). -/
def LineUnit.setFrameError (x : LineUnit) : LineUnit := { x with flags := { x.flags with frameError := true } }

/-- A line is up in UP-IDLE, UP-BUSY and HELD (R189). -/
def LineState.isUp : LineState → Bool
  | .down => false
  | .upIdle | .upBusy | .held => true

/-- The code of a notice (R15, R189). -/
def Notice.code : Notice → Nat
  | .granted .. => 1
  | .expired .. => 2
  | .broken .. => 3
  | .lost .. => 4
  | .withdrawn .. => 5
  | .releasePending .. => 6
  | .mounted .. => 7
  | .gone .. => 8
  | .fault .. => 9

/-- The mask holds the notice's kind: bit `c - 1` for code `c` (R13, R190). -/
def maskHolds (mask : BitVec 9) (n : Notice) : Bool := mask.getLsbD (n.code - 1)

/-- The octet of a handle set: bit `h - 1` for handle number `h` (R15). -/
def handleSet (inSet : HandleNo → Bool) : Byte :=
  octet ((if inSet 0 then 1 else 0) + (if inSet 1 then 2 else 0) + (if inSet 2 then 4 else 0) + (if inSet 3 then 8 else 0))

end Sys2Proof.Machine
end

