-- ==== Sys2Proof/Machine/Formats.lean ====
section
/-! DEFINITION. The octets of the frames the part sends and receives (R11 to R15, R188), the codes of states, and the
bits of a desk line (R169). -/

namespace Sys2Proof.Machine

/-! ## Codes -/

/-- Outcome codes (R188). -/
def Outcome.code : Outcome → Byte
  | .done => 0x00
  | .queued => 0x01
  | .halted => 0x02
  | .idle => 0x03
  | .unknown => 0x10
  | .malformed => 0x11
  | .notPermitted => 0x12
  | .busy => 0x13
  | .held => 0x14
  | .noVolume => 0x20
  | .closing => 0x21
  | .writeProtected => 0x22
  | .driveFault => 0x23
  | .drivesActive => 0x24
  | .inUse => 0x25
  | .noStory => 0x30
  | .duplicate => 0x31
  | .catalogueFull => 0x32
  | .wrongStage => 0x33
  | .stageLocked => 0x34
  | .claimed => 0x40
  | .alreadyOpen => 0x41
  | .noHandle => 0x42
  | .badHandle => 0x43
  | .lost => 0x44
  | .broken => 0x45
  | .badIndex => 0x50
  | .partialTail => 0x51
  | .storyFull => 0x52
  | .fragmented => 0x53
  | .volumeFull => 0x54
  | .copyActive => 0x55
  | .medium => 0x60
  | .writeFault => 0x61
  | .volumeLost => 0x62
  | .engineBusy => 0x63

/-- Stage codes (R3). -/
def Stage.code : Stage → Byte
  | .copy => 0
  | .edit => 1
  | .ready => 2
  | .set => 3
  | .spiked => 4

/-- The stage of a code 0 to 4 (R3). -/
def Stage.ofCode (b : Byte) : Option Stage :=
  if b = 0 then some .copy
  else if b = 1 then some .edit
  else if b = 2 then some .ready
  else if b = 3 then some .set
  else if b = 4 then some .spiked
  else none

/-- Volume status codes (R14). -/
def VolumeStatus.code : VolumeStatus → Byte
  | .none => 0
  | .spinUp => 1
  | .mounting => 2
  | .mounted => 3
  | .releasing => 4
  | .formatting => 5
  | .foreign => 6
  | .unlocked => 7
  | .faulted => 8

/-- Head status codes (R14). -/
def HeadStatus.code : HeadStatus → Byte
  | .unloaded => 0
  | .seek => 1
  | .wait .fill => 2
  | .wait .flush => 3
  | .wait .lay => 4
  | .run .fill => 5
  | .run .flush => 6
  | .run .lay => 7
  | .opened => 8

/-- Fault cause codes (R14). -/
def FaultCause.code : FaultCause → Byte
  | .speed => 1
  | .seek => 2
  | .write => 3

/-- Origin codes of the FAULT notice (R15). -/
def FaultOrigin.code : FaultOrigin → Byte
  | .mountedVolume => 0
  | .noVolume => 1

/-- Cause octet of a MEDIUM answer (R14). -/
def MediumCause.octet : MediumCause → Byte
  | .code => 1
  | .dataCrc => 2
  | .postamble => 3
  | .missing => 4

/-- A flag operand or result octet: 0 clear, 1 set (R13). -/
def flagOctet (b : Bool) : Byte := if b then 1 else 0

/-- A desk, or 255 for none (R14). -/
def deskOctet : Option LineNo → Byte
  | none => 255
  | some l => octet l

/-- The number of a handle: 1 to 4 (R44). -/
def handleOctet (h : HandleNo) : Byte := octet (h + 1)

/-- A binding: 0 BOUND, 1 SHADOWED (R14). -/
def bindingOctet (bound : Bool) : Byte := if bound then 0 else 1

/-! ## Bodies -/

/-- The body of an answer: outcome, flags, results (R14). -/
def Answer.body (a : Answer) : List Byte := a.outcome.code :: a.flags :: a.results

/-- The body of a notice: code and operands (R15). -/
def Notice.body (n : Notice) : List Byte :=
  octet n.code ::
    match n with
    | .granted h d slot => [handleOctet h, octet d, octet slot]
    | .expired h d slot => [handleOctet h, octet d, octet slot]
    | .broken h d slot => [handleOctet h, octet d, octet slot]
    | .lost d set => [octet d, set]
    | .withdrawn h d slot => [handleOctet h, octet d, octet slot]
    | .releasePending d set => [octet d, set]
    | .mounted d serial name protect => octet d :: octets2 serial.toNat ++ name ++ [flagOctet protect]
    | .gone d count => [octet d, octet count]
    | .fault d cause origin => [octet d, cause.code, origin.code]

/-! ## Frames -/

/-- The octets of a frame with its length field and check octets (R11, R12). -/
def frameOctets (kind tag : Byte) (body : List Byte) : List Byte :=
  let covered := kind :: tag :: octets2 body.length ++ body
  covered ++ checkLine covered

/-- The frame the part sends for an answer: kind 0x80, the request's tag (R11, R12). -/
def Answer.octets (a : Answer) : List Byte := frameOctets 0x80 a.tag a.body

/-- The frame the part sends for a notice: kind 0x81, tag 0 (R11, R12). -/
def Notice.octets (n : Notice) : List Byte := frameOctets 0x81 0 n.body

/-- A received frame is good: a whole number of octets, 6 to 526 of them, and a good check (R12). -/
def goodFrame (os : List Byte) (spare : Nat) : Bool :=
  spare == 0 && decide (6 ≤ os.length) && decide (os.length ≤ 526) && goodLine os

/-- The fields of a good frame (R11). -/
def parseFrame (os : List Byte) : Frame where
  kind := octetAt os 0
  tag := octetAt os 1
  length := BitVec.ofNat 16 (number (octetsAt os 2 2))
  body := (os.drop 4).take (os.length - 6)

/-- The frame of a request as it stands in a receive slot: its length field is its body's length (R11). -/
def requestFrame (kind tag : Byte) (body : List Byte) : Frame where
  kind := kind
  tag := tag
  length := BitVec.ofNat 16 body.length
  body := body

/-! ## The bits of a desk line (R169) -/

/-- The flag: a zero, seven ones and a zero. -/
def flagBits : List Bool := [false, true, true, true, true, true, true, true, false]

/-- Insert a zero after every run of six ones; `ones` is the run so far. -/
def insertZeros (ones : Nat) : List Bool → List Bool
  | [] => []
  | true :: bs => if ones = 5 then true :: false :: insertZeros 0 bs else true :: insertZeros (ones + 1) bs
  | false :: bs => false :: insertZeros 0 bs

/-- Remove the zero that follows six ones; `ones` is the run so far. -/
def removeZeros (ones : Nat) : List Bool → List Bool
  | [] => []
  | true :: bs => true :: removeZeros (ones + 1) bs
  | false :: bs => if ones = 6 then removeZeros 0 bs else false :: removeZeros 0 bs

/-- The bits of a frame on the line: opening flag, octets low bit first with zero insertion, closing flag. -/
def frameBits (os : List Byte) : List Bool := flagBits ++ insertZeros 0 (os.flatMap bitsLow) ++ flagBits

/-- Whole octets, low bit first, and the number of spare bits after them. -/
def gatherOctets : Nat → List Bool → List Byte × Nat
  | 0, bits => ([], bits.length)
  | n + 1, bits =>
    if bits.length < 8 then ([], bits.length)
    else
      let rest := gatherOctets n (bits.drop 8)
      (octetOfLow (bits.take 8) :: rest.1, rest.2)

/-- Bits hold a run of `n` ones; `ones` is the run so far. -/
def hasOnes (n ones : Nat) : List Bool → Bool
  | [] => decide (n ≤ ones)
  | true :: bs => hasOnes n (ones + 1) bs
  | false :: bs => decide (n ≤ ones) || hasOnes n 0 bs

/-- What can stand between the flags of a frame: no run of seven ones, since such a run is a flag or becomes an abort, and either
ends the frame at that point (R170; log entry 9). -/
def couldGather : Received → Bool
  | .octets .. => true
  | .bits bs => !hasOnes 7 0 bs

/-- The octets and spare bits the receiver has gathered when a flag ends the frame. -/
def gathered : Received → List Byte × Nat
  | .octets os spare => (os, spare)
  | .bits bs => gatherOctets bs.length (removeZeros 0 bs)

/-- What the part presents on a line (R169): idle ones, flags, or the frame it has begun. -/
inductive LineOutput where
  | idleOnes
  | flags
  | frame (octets : List Byte)
  deriving DecidableEq, Repr

/-- What the transmitter of a line presents. -/
def LineUnit.output (x : LineUnit) : LineOutput :=
  if x.state.isUp then
    match x.sending, x.answerSlot, x.notices with
    | some .answer, some a, _ => .frame a.octets
    | some .notice, _, n :: _ => .frame n.octets
    | _, _, _ => .flags
  else .idleOnes

/-- The line clear output: on while the receive slot is empty (R171). -/
def LineUnit.lineClear (x : LineUnit) : Bool := x.receiveSlot.isNone

end Sys2Proof.Machine
end

