-- ==== Sys2Proof/Machine/Recording.lean ====
section
/-! DEFINITION. What is recorded on the medium: geometry (R1), the cell code and the layouts of R7 to R10, and how the read
circuit classes a sector (R9). -/

namespace Sys2Proof.Machine

/-! ## Geometry (R1) -/

/-- The cylinder of a track. -/
def cylinderOf (track : Nat) : Nat := track / 2

/-- The side of a track; the drive selects it for a job on the track (R140, R145, R149). -/
def sideOf (track : Nat) : Nat := track % 2

/-- The track of an LSN. -/
def trackOf (lsn : Nat) : Nat := lsn / 15

/-- The sector number, 1 to 15, of an LSN. -/
def sectorOf (lsn : Nat) : Nat := lsn % 15 + 1

/-- The LSN of sector `sector` on cylinder `cylinder`, side `side`. -/
def lsnOf (cylinder side sector : Nat) : Nat := (cylinder * 2 + side) * 15 + (sector - 1)

/-- 512 zero octets. -/
def zeroSector : SectorData := List.replicate 512 0

/-- Sector numbers 1 to 15. -/
def allSectors : List Nat := [1, 2, 3, 4, 5, 6, 7, 8, 9, 10, 11, 12, 13, 14, 15]

/-! ## The cell code (R7) -/

/-- The two cells of a data bit: a one bit is a one-cell and a zero-cell, a zero bit the other way round. -/
def bitCells (b : Bool) : List Bool := [b, !b]

/-- The cells of a field: octets most significant bit first. -/
def fieldCells (os : List Byte) : List Bool := (os.flatMap bitsHigh).flatMap bitCells

/-- Runs of uncoded cells. -/
def oneCells (n : Nat) : List Bool := List.replicate n true

/-- The sync: four zero-cells. -/
def syncCells : List Bool := List.replicate 4 false

/-- The header mark and the data mark. -/
def headerMark : Byte := 0x5E
/-- See `headerMark`. -/
def dataMark : Byte := 0x6B

/-- The seven octets of a header field (R8). -/
def headerOctets (track sector : Nat) : List Byte :=
  let covered := [headerMark, octet (cylinderOf track), octet (sideOf track), octet sector, 2]
  covered ++ checkMedium covered

/-- The 515 octets of a data field. -/
def dataOctets (data : SectorData) : List Byte :=
  let covered := dataMark :: data
  covered ++ checkMedium covered

/-- The cells of one sector frame as LAY writes it (R8): preamble, sync, header, gap, sync, data, postamble, gap. -/
def sectorFrameCells (track sector : Nat) (data : SectorData) : List Bool :=
  oneCells 64 ++ syncCells ++ fieldCells (headerOctets track sector) ++ oneCells 64 ++ syncCells ++
    fieldCells (dataOctets data) ++ oneCells 8 ++ oneCells 120

/-- The cells LAY writes from the index pulse on, up to the end gap (R7, R8). -/
def layCells (track : Nat) (contents : List SectorData) : List Bool :=
  oneCells 512 ++ (allSectors.zip contents).flatMap fun x => sectorFrameCells track x.1 x.2

/-- The cells of a LAY whose closing index pulse comes `turn` cells after the opening one: the end gap is one-cells up to that pulse,
at which the gate closes wherever the layout stands (R7, R8). At 1,000,000 cells per second a cell is a microsecond of the period. -/
def laidCells (track : Nat) (contents : List SectorData) (turn : Nat) : List Bool :=
  (layCells track contents ++ oneCells turn).take turn

/-- The cells of the header gap that pass after a seen header before a FLUSH opens the write gate (R10). -/
def gateWait : Nat := 32

/-- The cells a FLUSH writes while the gate is open for one sector (R10). -/
def rewriteCells (data : SectorData) : List Bool :=
  oneCells 32 ++ syncCells ++ fieldCells (dataOctets data) ++ oneCells 8 ++ oneCells 16

/-- The cells of a burst of the write-data output; while a LAY's gate is open, those before its end gap. -/
def WriteBurst.cells : WriteBurst → List Bool
  | .rewrite _ _ data => rewriteCells data
  | .lay track contents none => layCells track contents
  | .lay track contents (some turn) => laidCells track contents turn

/-- The write gate and the write-data output of a burst, cell by cell: `none` while the gate is closed. A rewrite counts from the end
of the header seen (R10), a laid track from the index pulse that opens the gate (R8). -/
def WriteBurst.output : WriteBurst → List (Option Bool)
  | .rewrite a b data => List.replicate gateWait none ++ (WriteBurst.rewrite a b data).cells.map some
  | .lay a b turn => (WriteBurst.lay a b turn).cells.map some

/-- The cells of a stretch of the track after an output has passed over it: a written cell replaces the old one, and where the gate is
closed, or past its closing, the old cells stand (R10, R153). -/
def cellsAfter : List Bool → List (Option Bool) → List Bool
  | old, [] => old
  | [], some c :: out => c :: cellsAfter [] out
  | [], none :: _ => []
  | _ :: old, some c :: out => c :: cellsAfter old out
  | o :: old, none :: out => o :: cellsAfter old out

/-! ## Reading cells (R7, R9) -/

/-- Look for a run of at least 16 one-cells followed by four zero-cells; the cells after them. `ones` is the run of
one-cells so far, `zeros` the zero-cells after it. -/
def findSync (ones zeros : Nat) : List Bool → Option (List Bool)
  | [] => none
  | true :: cs => if zeros = 0 then findSync (ones + 1) 0 cs else findSync 1 0 cs
  | false :: cs =>
    if ones < 16 then findSync 0 0 cs
    else if zeros = 3 then some cs
    else findSync ones (zeros + 1) cs

/-- Read `n` bits in pairs of cells; none at a pair of equal cells. A field that the index pulse cuts off, where the cells run out, is
read as one with a cell violation: R9 and R141 give it no class (the model's choice, log entry 26). -/
def readBits : Nat → List Bool → Option (List Bool × List Bool)
  | 0, cs => some ([], cs)
  | n + 1, a :: b :: cs =>
    if a == b then none
    else match readBits n cs with
      | none => none
      | some (bits, rest) => some (a :: bits, rest)
  | _ + 1, _ => none

/-- Octets from bits given most significant first. -/
def octetsOfHigh : Nat → List Bool → List Byte
  | 0, _ => []
  | n + 1, bits => octetOfHigh (bits.take 8) :: octetsOfHigh n (bits.drop 8)

/-- Read `n` octets of a field; none at a cell violation. -/
def readOctets (n : Nat) (cells : List Bool) : Option (List Byte × List Bool) :=
  match readBits (8 * n) cells with
  | none => none
  | some (bits, rest) => some (octetsOfHigh n bits, rest)

/-- Look in a window for a run of at least 16 one-cells, four zero-cells and the data mark; the window's cells from the mark on. A
sync that the data mark does not follow is passed over, and the search goes on after it (R9; log entry 24). -/
def findDataMark : Nat → List Bool → Option (List Bool)
  | 0, _ => none
  | n + 1, cells =>
    match findSync 0 0 cells with
    | none => none
    | some field =>
      match readOctets 1 field with
      | none => findDataMark n field
      | some (mark, _) => if mark = [dataMark] then some field else findDataMark n field

/-- The cells after a header in which its data mark must be found (R9). -/
def dataWindow : Nat := 128

/-- The data field that follows a header, of whose end `cells` are the cells after (R9). One that the index pulse cuts off is a
violation, and a window it cuts off holds no later mark (the model's choice, log entry 26). -/
def readData (cells : List Bool) : DataField :=
  match findDataMark dataWindow (cells.take dataWindow) with
  | none => .notFound
  | some found =>
    match readOctets 515 (cells.drop ((cells.take dataWindow).length - found.length)) with
    | none => .violation
    | some (os, rest) => .field os ((rest.take 8).takeWhile id).length

/-- The sector frames in the cells of a revolution: from each sync, a field that opens with the header mark is read as a
header, any other field is passed over. A run of one-cells begun before the index pulse that opens the revolution does not count toward
its first sync, a point R9 leaves open (the model's choice, log entry 27). -/
def readFrames : Nat → List Bool → List SectorFrame
  | 0, _ => []
  | n + 1, cells =>
    match findSync 0 0 cells with
    | none => []
    | some field =>
      match readOctets 1 field with
      | none => readFrames n field
      | some (mark, afterMark) =>
        if mark = [headerMark] then
          match readOctets 7 field with
          | none => ⟨⟨true, mark⟩, .notFound⟩ :: readFrames n afterMark
          | some (os, rest) => ⟨⟨false, os⟩, readData rest⟩ :: readFrames n rest
        else readFrames n afterMark

/-- The sector frames of a reading. -/
def sectorFrames : Reading → List SectorFrame
  | .frames fs => fs
  | .cells cs => readFrames cs.length cs

/-! ## Classing a sector (R9) -/

/-- A header is seen: no cell violation, header mark, good check, the side selected, sector 1 to 15, size code 2. -/
def headerSeen (h : HeaderField) (side : Nat) : Bool :=
  !h.violation && h.octets.length == 7 && octetAt h.octets 0 == headerMark && goodMedium h.octets &&
    (octetAt h.octets 2).toNat == side && decide (1 ≤ (octetAt h.octets 3).toNat) &&
    decide ((octetAt h.octets 3).toNat ≤ 15) && octetAt h.octets 4 == 2

/-- The sector number a header names. -/
def headerSector (h : HeaderField) : Nat := (octetAt h.octets 3).toNat

/-- A seen header matches when it names the expected cylinder (R141). -/
def headerNames (h : HeaderField) (cylinder : Nat) : Bool := (octetAt h.octets 1).toNat == cylinder

/-- The result of reading the data field after a matching header, in the order of R9's table. -/
def dataResult : DataField → SectorResult
  | .notFound => .bad .code
  | .violation => .bad .code
  | .field os postamble =>
    if !(goodMedium os && os.length == 515) then .bad .dataCrc
    else if postamble < 8 then .bad .postamble
    else .good ((os.drop 1).take 512)

end Sys2Proof.Machine
end

