-- ==== Sys2Proof/Machine/CatalogueFormat.lean ====
section
/-! DEFINITION. The label and the catalogue slots as recorded on track 0: rendering them (R2, R3, R5) and decoding and
checking them at mount (R4, R26, R27). -/

namespace Sys2Proof.Machine

/-! ## Slugs (1.2) -/

/-- The characters of a slug: capital letters, digits and hyphen. -/
def slugCharacter (b : Byte) : Bool :=
  (decide (0x41 ≤ b.toNat) && decide (b.toNat ≤ 0x5A)) || (decide (0x30 ≤ b.toNat) && decide (b.toNat ≤ 0x39)) || b == 0x2D

/-- A slug is well-formed: 12 octets, the first a slug character, each other one a slug character or a space, and none
after a space. -/
def slugWellFormed (s : Slug) : Bool :=
  s.length == 12 && slugCharacter (octetAt s 0) && (s.dropWhile slugCharacter).all (· == 0x20)

/-- A volume name is 8 octets, each 0x20 to 0x7E (R2, R13). -/
def nameWellFormed (name : List Byte) : Bool :=
  name.length == 8 && name.all fun b => decide (0x20 ≤ b.toNat) && decide (b.toNat ≤ 0x7E)

/-! ## The label (R2, R3) -/

/-- The format mark: the characters E, F, 8, D. -/
def formatMark : List Byte := [0x45, 0x46, 0x38, 0x44]

/-- The label sector. -/
def labelOctets (name : List Byte) (serial : Word16) (generation : BitVec 32) : SectorData :=
  padTo 512 (formatMark ++ [1] ++ name ++ octets2 serial.toNat ++ octets4 generation.toNat)

/-- A label is valid when octets 0 to 3 hold the format mark and octet 4 holds 1. -/
def labelValid (os : SectorData) : Bool := os.take 4 == formatMark && octetAt os 4 == 1

/-! ## Slots (R3, R5) -/

/-- The extents of a slot: 14 of them, zero past those held. -/
def extentOctets (extents : List Extent) : List Byte :=
  padTo 42 (extents.flatMap fun x => octets2 x.start ++ [octet x.count])

/-- Octets 0 to 61 of the slot an entry is rendered as: a LIVE entry with its fields, any other as a free slot. -/
def slotFields (e : Entry) : List Byte :=
  match e.use with
  | .live =>
    [1, e.stage.code] ++ padTo 12 e.slug ++ [octet e.extents.length, deskOctet e.lastWriter] ++ octets2 e.tail ++
      octets2 e.revision.toNat ++ extentOctets e.extents
  | .free | .damaged _ | .filling => List.replicate 62 0

/-- The 64 octets of a rendered slot, entry check included (R5, R6). -/
def slotOctets (e : Entry) : List Byte :=
  let fields := slotFields e
  fields ++ checkMedium fields

/-- The 14 catalogue sectors of 8 slots each. -/
def catalogueSectors (entries : List Entry) : List SectorData :=
  (List.range 14).map fun k => ((entries.drop (8 * k)).take 8).flatMap slotOctets

/-- The 15 sectors of a rendered track 0. -/
def renderTrack (name : List Byte) (serial : Word16) (generation : BitVec 32) (entries : List Entry) : List SectorData :=
  labelOctets name serial generation :: catalogueSectors entries

/-- The content of a FORMAT's LAY at a position (R8, R126): zeros, but for the final pass over track 0. -/
def formatContents (name : List Byte) (serial : Word16) (position : Nat) : List SectorData :=
  if position = Config.lastPosition then renderTrack name serial 0 (List.replicate 112 Entry.free)
  else List.replicate 15 zeroSector

/-- The track of a FORMAT position (R126). -/
def formatTrack (position : Nat) : Nat := if position = Config.lastPosition then 0 else position

/-! ## Decoding and checking a slot (R4, R27) -/

/-- The first `count` extents of a slot's extent octets. -/
def decodeExtents : Nat → List Byte → List Extent
  | 0, _ => []
  | n + 1, os => ⟨number (os.take 2), (octetAt os 2).toNat⟩ :: decodeExtents n (os.drop 3)

/-- The marks of `count` LSNs from `start` on. -/
def extentMarks (x : Extent) : BitVec 2310 := ((1#2310 <<< x.count) - 1#2310) <<< x.start

/-- An extent has sectors, and all of them in the data area. -/
def extentInData (x : Extent) : Bool :=
  decide (0 < x.count) && decide (Config.dataStart ≤ x.start) && decide (x.start + x.count ≤ Config.diskSectors)

/-- No extent meets a sector already taken or an earlier extent of the same slot. -/
def extentsApart (taken : BitVec 2310) : List Extent → Bool
  | [] => true
  | x :: xs => (taken &&& extentMarks x) == 0#2310 && extentsApart (taken ||| extentMarks x) xs

/-- The marks of a list of extents. -/
def marksOf (extents : List Extent) : BitVec 2310 := extents.foldl (fun m x => m ||| extentMarks x) 0

/-- What the load has found in the slots examined so far: the entries in reverse, the sectors taken by LIVE ones, and
the slugs of LIVE ones. -/
structure LoadProgress where
  entries : List Entry
  taken : BitVec 2310
  slugs : List Slug

/-- A DAMAGED entry with the octets kept for LIST (R17, R33). -/
def damagedEntry (os : List Byte) : Entry :=
  { Entry.free with
    use := .damaged (octetAt os 1)
    slug := octetsAt os 2 12
    revision := BitVec.ofNat 16 (number (octetsAt os 18 2)) }

/-- The last writer of a last-writer octet: 8 to 255 is none (R27). -/
def lastWriterOf (b : Byte) : Option LineNo := if h : b.toNat < 8 then some ⟨b.toNat, h⟩ else none

/-- The checks of R27 on a slot with use octet 1, and the LIVE entry it gives when all pass. -/
def checkedEntry (p : LoadProgress) (os : List Byte) : Option Entry :=
  let slug := octetsAt os 2 12
  let extentCount := (octetAt os 14).toNat
  let extents := decodeExtents extentCount (os.drop 20)
  let length := (extents.map Extent.count).sum
  let tail := number (octetsAt os 16 2)
  match Stage.ofCode (octetAt os 1) with
  | none => none
  | some stage =>
    if goodMedium os && slugWellFormed slug && decide (extentCount ≤ Config.maxExtents) && extents.all extentInData &&
        decide (length ≤ Config.maxStory) && decide (tail ≤ 512) && (decide (tail = 0) == decide (length = 0)) &&
        extentsApart p.taken extents && !p.slugs.contains slug then
      some
        { Entry.free with
          use := .live
          stage := stage
          slug := slug
          extents := extents
          tail := tail
          revision := BitVec.ofNat 16 (number (octetsAt os 18 2))
          lastWriter := lastWriterOf (octetAt os 15) }
    else none

/-- Decode one slot of 64 octets after those already examined (R4, R27). -/
def loadSlot (p : LoadProgress) (os : List Byte) : LoadProgress :=
  if octetAt os 0 = 0 then { p with entries := Entry.free :: p.entries }
  else if octetAt os 0 = 1 then
    match checkedEntry p os with
    | some e => ⟨e :: p.entries, p.taken ||| marksOf e.extents, e.slug :: p.slugs⟩
    | none => { p with entries := damagedEntry os :: p.entries }
  else { p with entries := damagedEntry os :: p.entries }

/-- The slots of the catalogue sectors, 8 of 64 octets in each. -/
def slotsOf (sectors : List SectorData) : List (List Byte) :=
  sectors.flatMap fun os => (List.range 8).map fun k => octetsAt os (64 * k) 64

/-- Load slots in ascending order. -/
def loadSlots (p : LoadProgress) : List (List Byte) → LoadProgress
  | [] => p
  | os :: rest => loadSlots (loadSlot p os) rest

/-- How many marks are set among the first `n` LSNs. -/
def usedMarks (marks : BitVec 2310) : Nat → Nat
  | 0 => 0
  | n + 1 => usedMarks marks n + (if marks.getLsbD n then 1 else 0)

/-- LSN 0 to 14 are used in every space map (R1, R74). -/
def systemMarks : BitVec 2310 := extentMarks ⟨0, 15⟩

/-- The octets of a record; a BAD one's are zero (R131). -/
def SectorRecord.octets : SectorRecord → SectorData
  | .clean os => os
  | .dirty os => os
  | .bad _ => zeroSector

/-- The record is BAD. -/
def SectorRecord.isBad : SectorRecord → Bool
  | .bad _ => true
  | .clean _ | .dirty _ => false

/-- The record is DIRTY. -/
def SectorRecord.isDirty : SectorRecord → Bool
  | .dirty _ => true
  | .clean _ | .bad _ => false

/-- The mount load of R26 to R28 from the 15 records of track 0, bindings not yet set; none where the mount fails. -/
def loadVolume (records : List SectorRecord) : Option Volume :=
  match records with
  | [] => none
  | label :: sectors =>
    if label.isBad || !labelValid label.octets || sectors.any SectorRecord.isBad then none
    else
      let p := loadSlots ⟨[], 0, []⟩ (slotsOf (sectors.map SectorRecord.octets))
      let marks := systemMarks ||| p.taken
      some
        { name := octetsAt label.octets 5 8
          serial := BitVec.ofNat 16 (number (octetsAt label.octets 13 2))
          generation := BitVec.ofNat 32 (number (octetsAt label.octets 15 4))
          stale := false
          nextRender := []
          flushList := []
          entries := p.entries.reverse
          marks := marks
          freeCount := Config.diskSectors - usedMarks marks Config.diskSectors
          cursor := Config.dataStart }

end Sys2Proof.Machine
end

