-- ==== Sys2Proof/Machine/Lines.lean ====
section
/-! DEFINITION. Desk line units: producing answers (R173), ending an outstanding request (R176, R178), receive slots
(R172), offering notices (R190), and the transmitter's choice (R174). -/

namespace Sys2Proof.Machine

/-! ## Answers -/

/-- Put a produced answer into the answer slot if it is empty, and into the pending answer otherwise; a DOWN line's
answer is discarded (R173, R177). -/
def LineUnit.takeAnswer (x : LineUnit) (a : Answer) : LineUnit :=
  if x.state.isUp then
    match x.answerSlot with
    | none => { x with answerSlot := some a }
    | some _ => { x with pendingAnswer := some a }
  else x

/-- Produce an answer on a line; its flags octet holds the flags as they stand now (R14). -/
def State.answer (s : State) (l : LineNo) (tag : Byte) (oc : Outcome) (results : List Byte) : State :=
  s.onLine l fun x => x.takeAnswer ⟨tag, oc, x.flags.octet, results⟩

/-- The line state after the outstanding request's answer: VOLUME-LOST and BROKEN hold the line (R176). -/
def Outcome.stateAfter : Outcome → LineState
  | .volumeLost | .broken => .held
  | _ => .upIdle

/-- The owner of a desk's outstanding request ends it with an outcome: the answer is produced, the record becomes empty
and the line leaves UP-BUSY (R176, R178). Work left by a line gone DOWN ends without an answer (R181). -/
def State.endRequest (s : State) (l : LineNo) (oc : Outcome) (results : List Byte) : State :=
  match (s.desk l).outstanding with
  | some o =>
    ((s.answer l o.tag oc results).onLine l fun x => { x with state := oc.stateAfter }).onDesk l
      fun k => { k with outstanding := none }
  | none => s.onDesk l fun k => { k with leftover := none }

/-! ## The receive slot -/

/-- The receive slot becomes empty (R172). -/
def State.emptySlot (s : State) (l : LineNo) : State := s.onLine l fun x => { x with receiveSlot := none }

/-- The receive slot becomes empty if it holds the frame of a taken WRITE (R83, R84). -/
def State.emptyTakenSlot (s : State) (l : LineNo) : State :=
  s.onLine l fun x =>
    match x.receiveSlot with
    | some ⟨_, true⟩ => { x with receiveSlot := none }
    | _ => x

/-- A request is refused, or answered at its take: the slot empties and the answer is produced (R172, R184). -/
def State.reply (s : State) (l : LineNo) (tag : Byte) (oc : Outcome) (results : List Byte) : State :=
  (s.emptySlot l).answer l tag oc results

/-- A request is taken and becomes outstanding (R178); the slot empties except for a WRITE, whose data it keeps (R172). -/
def State.beginRequest (s : State) (l : LineNo) (kind : OutstandingKind) (tag : Byte) : State :=
  (s.onLine l fun x =>
      { x with
        state := .upBusy
        receiveSlot :=
          match kind with
          | .write => x.receiveSlot.map fun r => { r with taken := true }
          | .read | .close | .copy | .format | .recover => none }).onDesk l
    fun k => { k with outstanding := some ⟨kind, tag⟩ }

/-! ## Notices -/

/-- What becomes of a notice offered to a line unit (R190). -/
def LineUnit.takeNotice (x : LineUnit) (n : Notice) : LineUnit :=
  if !x.state.isUp then x
  else if !maskHolds x.mask n then x
  else if Config.noticePlaces ≤ x.notices.length then x.setNoticeLost
  else { x with notices := x.notices ++ [n] }

/-- Offer a notice to the line of one desk (R189, R190). -/
def State.notify (s : State) (l : LineNo) (n : Notice) : State := s.onLine l fun x => x.takeNotice n

/-- Offer a notice to every line that is up (R189). -/
def State.broadcast (s : State) (n : Notice) : State := allLines.foldl (fun t l => t.notify l n) s

/-! ## The transmitter -/

/-- Between frames, on an up line with desk ready on, the transmitter begins the answer, or else the oldest notice, or
goes on sending flags (R174). -/
def LineUnit.chooseFrame (x : LineUnit) : LineUnit :=
  if x.sending.isNone && x.state.isUp && x.deskReady then
    match x.answerSlot, x.notices with
    | some _, _ => { x with sending := some .answer }
    | none, _ :: _ => { x with sending := some .notice }
    | none, [] => x
  else x

/-- Every transmitter makes its choice. -/
def State.chooseFrames (s : State) : State := allLines.foldl (fun t l => t.onLine l LineUnit.chooseFrame) s

end Sys2Proof.Machine
end

