-- ==== Sys2Proof/Machine/Space.lean ====
section
/-! DEFINITION. The space unit's extents and space maps: mapping story indexes (R72), freeing (R76), the search and the
allocations of R77 to R81, and trimming (R93). -/

namespace Sys2Proof.Machine

/-- The LSN of a story index in a list of extents; none at or past the length (R72). -/
def lsnOfIndex : List Extent → Nat → Option Nat
  | [], _ => none
  | x :: xs, i => if i < x.count then some (x.start + i) else lsnOfIndex xs (i - x.count)

/-- The LSN of a story index of an entry. -/
def Entry.lsn (e : Entry) (i : Nat) : Option Nat := lsnOfIndex e.extents i

/-- The octets of text at a story index: the tail octets in the last sector, 512 in any other (R72). -/
def Entry.textOctets (e : Entry) (i : Nat) : Nat := if i + 1 = e.length then e.tail else 512

/-- The number of sectors of a list of extents. -/
def extentSectors (xs : List Extent) : Nat := (xs.map Extent.count).sum

/-- Free the sectors of a list of extents: the marks become free and the free count rises by their number (R76). -/
def Volume.freeExtents (v : Volume) (xs : List Extent) : Volume :=
  { v with marks := v.marks &&& ~~~(marksOf xs), freeCount := v.freeCount + extentSectors xs }

/-- Take the sectors of a list of extents: the marks become used and the free count falls by their number (R75). -/
def Volume.takeExtents (v : Volume) (xs : List Extent) : Volume :=
  { v with marks := v.marks ||| marksOf xs, freeCount := v.freeCount - extentSectors xs }

/-- The sector after an LSN in the search's order: 15 after 2309 (R77). -/
def nextLsn (lsn : Nat) : Nat := if lsn + 1 < Config.diskSectors then lsn + 1 else Config.dataStart

/-- The first free sector from `lsn` on, `n` sectors examined at most (R77). -/
def searchFree (marks : BitVec 2310) : Nat → Nat → Option Nat
  | 0, _ => none
  | n + 1, lsn => if marks.getLsbD lsn then searchFree marks n (nextLsn lsn) else some lsn

/-- How many sectors the search covers: the data area once (R77). -/
def searchSectors : Nat := Config.diskSectors - Config.dataStart

/-- The last extent grows by one sector (R79). -/
def growLast : List Extent → List Extent
  | [] => []
  | [x] => [{ x with count := x.count + 1 }]
  | x :: y :: rest => x :: growLast (y :: rest)

/-- An append allocation for a slot of a volume (R78 to R80): the volume with the sector allocated and the entry's
extents grown, or the refusal. -/
def Volume.allocateAppend (v : Volume) (slot : SlotNo) : Except Outcome Volume :=
  let e := v.entry slot
  let extended : Option Volume :=
    match e.extents.getLast? with
    | none => none
    | some x =>
      let after := x.start + x.count
      if decide (after < Config.diskSectors) && !v.marks.getLsbD after && decide (x.count < Config.maxStory) then
        some ((v.takeExtents [⟨after, 1⟩]).setEntry slot { e with extents := growLast e.extents })
      else none
  match extended with
  | some w => .ok w
  | none =>
    if Config.maxExtents ≤ e.extents.length then .error .fragmented
    else
      match searchFree v.marks searchSectors v.cursor with
      | none => .error .volumeFull
      | some lsn =>
        .ok { (v.takeExtents [⟨lsn, 1⟩]).setEntry slot { e with extents := e.extents ++ [⟨lsn, 1⟩] } with
          cursor := nextLsn lsn }

/-- Walk the marks from `lsn`, taking `wanted` free sectors; the sectors in the order taken (R81 step 2). -/
def walkFree (marks : BitVec 2310) : Nat → Nat → Nat → List Nat
  | 0, _, _ => []
  | _ + 1, _, 0 => []
  | n + 1, lsn, wanted + 1 =>
    if marks.getLsbD lsn then walkFree marks n (nextLsn lsn) (wanted + 1)
    else lsn :: walkFree marks n (nextLsn lsn) wanted

/-- Group taken sectors into runs of consecutive LSNs (R81 step 2). -/
def runsOf : List Nat → List Extent
  | [] => []
  | lsn :: rest =>
    match runsOf rest with
    | [] => [⟨lsn, 1⟩]
    | x :: xs => if x.start = lsn + 1 then ⟨lsn, x.count + 1⟩ :: xs else ⟨lsn, 1⟩ :: x :: xs

/-- A copy allocation of `n` sectors (R81): the extents and the volume with them taken, or the refusal. -/
def Volume.allocateCopy (v : Volume) (n : Nat) : Except Outcome (List Extent × Volume) :=
  if n = 0 then .ok ([], v)
  else if v.freeCount < n then .error .volumeFull
  else
    let taken := walkFree v.marks searchSectors v.cursor n
    let runs := runsOf taken
    if Config.maxExtents < runs.length then .error .fragmented
    else .ok (runs, { v.takeExtents runs with cursor := nextLsn (taken.getLastD v.cursor) })

/-- Remove `n` sectors from the end of extents given last first: those kept, last first, and those freed (R93). -/
def trimReversed : List Extent → Nat → List Extent × List Extent
  | xs, 0 => (xs, [])
  | [], _ + 1 => ([], [])
  | x :: xs, n + 1 =>
    if x.count ≤ n + 1 then
      let r := trimReversed xs (n + 1 - x.count)
      (r.1, x :: r.2)
    else (⟨x.start, x.count - (n + 1)⟩ :: xs, [⟨x.start + (x.count - (n + 1)), n + 1⟩])

/-- Trim a slot of a volume to `m` sectors with a new tail (R93). -/
def Volume.trimEntry (v : Volume) (slot : SlotNo) (m tail : Nat) : Volume :=
  let e := v.entry slot
  let r := trimReversed e.extents.reverse (e.length - m)
  (v.freeExtents r.2).setEntry slot { e with extents := r.1.reverse, tail := tail, changed := true }

end Sys2Proof.Machine
end

