-- ==== Sys2Proof/Machine/Index.lean ====
section
/-! DEFINITION. The slug index (R21 to R25): resolving a slug, binding a new LIVE entry, and promoting a shadowed one. The
binding is held once, in the entries' `bound` fields. -/

namespace Sys2Proof.Machine

/-- The lowest slot of a volume whose entry passes a test. -/
def Volume.firstSlot (v : Volume) (p : Entry → Bool) : Option SlotNo :=
  match v.entries.findIdx? p with
  | some n => if h : n < 112 then some ⟨n, h⟩ else none
  | none => none

/-- The LIVE entry of drive `d` with a slug (R25). -/
def State.liveSlot (s : State) (d : DriveNo) (slug : Slug) : Option SlotNo :=
  match s.volume d with
  | none => none
  | some v => v.firstSlot fun e => e.isLive && e.slug == slug

/-- The BOUND entry of a slug on drive `d`. -/
def State.boundSlot (s : State) (d : DriveNo) (slug : Slug) : Option SlotNo :=
  match s.volume d with
  | none => none
  | some v => v.firstSlot fun e => e.isLive && e.bound && e.slug == slug

/-- The first drive of a list for which a search succeeds, with what it found. -/
def firstDrive (f : DriveNo → Option SlotNo) : List DriveNo → Option (DriveNo × SlotNo)
  | [] => none
  | d :: rest =>
    match f d with
    | some slot => some (d, slot)
    | none => firstDrive f rest

/-- The entry to which the index binds a slug. -/
def State.bound (s : State) (slug : Slug) : Option (DriveNo × SlotNo) :=
  firstDrive (fun d => s.boundSlot d slug) allDrives

/-- What a slug resolves to, unqualified (through the index) or qualified by a drive (R25). -/
def State.resolve (s : State) (qualifier : Option DriveNo) (slug : Slug) : Option (DriveNo × SlotNo) :=
  match qualifier with
  | none => s.bound slug
  | some d => (s.liveSlot d slug).map fun slot => (d, slot)

/-- Bind the slug of an entry that has become LIVE, if no entry holds its binding (R22). -/
def State.bindNew (s : State) (d : DriveNo) (slot : SlotNo) : State :=
  match s.bound (s.entry d slot).slug with
  | some _ => s
  | none => s.onEntry d slot fun e => { e with bound := true }

/-- Bind an unbound slug to the LIVE entry with that slug on the lowest-numbered drive, if there is one (R23, R24). -/
def State.promote (s : State) (slug : Slug) : State :=
  match firstDrive (fun d => s.liveSlot d slug) allDrives with
  | none => s
  | some (d, slot) => s.onEntry d slot fun e => { e with bound := true }

/-- Set the bindings of the LIVE entries of a loaded volume, in ascending slot order (R28). -/
def State.bindLoaded (s : State) (d : DriveNo) : State :=
  allSlots.foldl (fun t slot => if (t.entry d slot).isLive then t.bindNew d slot else t) s

/-- A LIVE or FILLING entry becomes FREE: its sectors are freed (R76), the entry is cleared (R17), and where it held its
slug's binding the slug is bound anew (R23). A DAMAGED entry holds neither. -/
def State.freeEntry (s : State) (d : DriveNo) (slot : SlotNo) : State :=
  let e := s.entry d slot
  let t := s.onVolume d fun v => (v.freeExtents e.extents).setEntry slot Entry.free
  if e.isLive && e.bound then t.promote e.slug else t

/-- The slugs bound to entries of a volume. -/
def Volume.boundSlugs (v : Volume) : List Slug := (v.entries.filter fun e => e.isLive && e.bound).map Entry.slug

end Sys2Proof.Machine
end

