-- ==== Sys2Proof/Machine/Catalogue.lean ====
section
/-! DEFINITION. Catalogue write-back (R37 to R43): the stale mark, CATALOGUE-WRITE items, catalogue waits and the render;
and posting work items (R106) with the buffer operations a render and a service share (R131, R132). -/

namespace Sys2Proof.Machine

/-! ## Work queues -/

/-- Post a work item at the tail of a drive's queue (R106); the unload count stops and an unload flush is given up (R111). -/
def Drive.post (x : Drive) (w : Work) : Drive :=
  { x with queue := x.queue ++ [⟨w, false⟩], unloadCount := none, unloading := false }

/-- Post a work item on drive `d`. -/
def State.post (s : State) (d : DriveNo) (w : Work) : State := s.onDrive d fun x => x.post w

/-- The item is a CATALOGUE-WRITE. -/
def WorkItem.isCatalogueWrite (i : WorkItem) : Bool :=
  match i.work with
  | .catalogueWrite => true
  | _ => false

/-- The item is a RELEASE. -/
def WorkItem.isRelease (i : WorkItem) : Bool :=
  match i.work with
  | .release => true
  | _ => false

/-- The desk whose SECTOR-READ or SECTOR-WRITE the item is. -/
def WorkItem.sectorDesk (i : WorkItem) : Option LineNo :=
  match i.work with
  | .sectorRead l .. => some l
  | .sectorWrite l .. => some l
  | _ => none

/-- The copy context whose item this is. -/
def WorkItem.copyContext (i : WorkItem) : Option ContextNo :=
  match i.work with
  | .copyRead c .. => some c
  | .copyWrite c .. => some c
  | _ => none

/-- The drive's catalogue-write record shows an item queued and not yet rendered (R38). -/
def Drive.catalogueQueued (x : Drive) : Bool := x.queue.any WorkItem.isCatalogueWrite

/-- Remove the items that pass a test; those behind move up (R107). -/
def Drive.removeItems (x : Drive) (p : WorkItem → Bool) : Drive := { x with queue := x.queue.filter fun i => !p i }

/-- The drive leaves the queue's head item behind. -/
def Drive.dropHead (x : Drive) : Drive := { x with queue := x.queue.tail }

/-! ## Track buffers -/

/-- The records of a buffer; none in an EMPTY one. -/
def Buffer.records : Buffer → List SectorRecord
  | .empty => []
  | .opened _ rs _ => rs
  | .retained _ rs => rs

/-- The dirty count (R132). -/
def Buffer.dirtyCount (b : Buffer) : Nat := b.records.countP SectorRecord.isDirty

/-- The track of a buffer. -/
def Buffer.track : Buffer → Option Nat
  | .empty => none
  | .opened t _ _ => some t
  | .retained t _ => some t

/-- The sector numbers of the DIRTY records, ascending (R145). -/
def Buffer.dirtySectors (b : Buffer) : List Nat :=
  allSectors.filter fun n => (b.records.getD (n - 1) (.bad .missing)).isDirty

/-- The record of a sector number. -/
def Buffer.record (b : Buffer) (sector : Nat) : SectorRecord := b.records.getD (sector - 1) (.bad .missing)

/-- Replace the record of a sector number. -/
def Buffer.setRecord (b : Buffer) (sector : Nat) (r : SectorRecord) : Buffer :=
  match b with
  | .empty => .empty
  | .opened t rs ws => .opened t (rs.set (sector - 1) r) ws
  | .retained t rs => .retained t (rs.set (sector - 1) r)

/-- The dirty age starts at 0 where the buffer held no DIRTY record before (R110). -/
def Drive.startAge (x : Drive) : Option Nat := if x.buffer.dirtyCount = 0 then some 0 else x.dirtyAge

/-- A service puts 512 octets into a record, which becomes DIRTY whatever it was (R90, R131, R159). -/
def Drive.writeRecord (x : Drive) (sector : Nat) (data : SectorData) : Drive :=
  { x with buffer := x.buffer.setRecord sector (.dirty data), dirtyAge := x.startAge }

/-! ## The stale mark and catalogue waits -/

/-- A stale mark on a MOUNTED volume posts a CATALOGUE-WRITE item unless one is queued (R38). -/
def State.postCatalogue (s : State) (d : DriveNo) : State :=
  match s.volume d with
  | none => s
  | some v =>
    if v.stale && (s.drive d).status == .mounted && !(s.drive d).catalogueQueued then s.post d .catalogueWrite else s

/-- Set the stale mark of the volume in drive `d` (R37, R38). -/
def State.setStale (s : State) (d : DriveNo) : State :=
  (s.onVolume d fun v => { v with stale := true }).postCatalogue d

/-- A context in COMMIT-WAIT becomes FREE with an outcome (R162). -/
def State.endCommitWait (s : State) (c : ContextNo) (oc : Outcome) : State :=
  let x := s.context c
  let t := s.setContext c CopyContext.reset
  if x.wanted then t.endRequest x.desk oc (if oc = .done then [octet x.destDrive, octet x.destSlot] else []) else t

/-- A catalogue wait is handed an outcome; its owner answers (R60, R162). A wait of a context that is not in COMMIT-WAIT, which no run
shows, does nothing (log entry 21). -/
def State.handWaiter (s : State) (oc : Outcome) (w : CatalogueWaiter) : State :=
  match w with
  | .desk l => s.endRequest l oc []
  | .context c => if (s.context c).phase = .commitWait then s.endCommitWait c oc else s

/-- Hand an outcome to every waiter of a list. -/
def State.handWaiters (s : State) (oc : Outcome) (ws : List CatalogueWaiter) : State :=
  ws.foldl (fun t w => t.handWaiter oc w) s

/-- Register a catalogue wait at drive `d`; on a FAULTED drive it is handed DRIVE-FAULT at once (R41). -/
def State.registerWait (s : State) (d : DriveNo) (w : CatalogueWaiter) : State :=
  if s.faulted d then s.handWaiter .driveFault w
  else s.onVolume d fun v => { v with nextRender := v.nextRender ++ [w] }

/-- Withdraw a catalogue wait wherever it stands (R42). -/
def State.withdrawWait (s : State) (w : CatalogueWaiter) : State :=
  allDrives.foldl
    (fun t d => t.onVolume d fun v =>
      { v with nextRender := v.nextRender.filter (· != w), flushList := v.flushList.filter (· != w) }) s

/-- Every waiter on both lists of drive `d` is handed an outcome, and the lists are emptied (R40, R42). -/
def State.handAllWaiters (s : State) (d : DriveNo) (oc : Outcome) : State :=
  match s.volume d with
  | none => s
  | some v =>
    (s.setVolume d (some { v with nextRender := [], flushList := [] })).handWaiters oc (v.flushList ++ v.nextRender)

/-- The waiters of the flush that followed the latest render are handed DONE (R40). -/
def State.handFlushed (s : State) (d : DriveNo) : State :=
  match s.volume d with
  | none => s
  | some v => (s.setVolume d (some { v with flushList := [] })).handWaiters .done v.flushList

/-! ## The render (R39) -/

/-- The volume after a render: the generation one greater, the mark clear, the waiters on the flush list. -/
def Volume.rendered (v : Volume) : Volume :=
  { v with
    generation := v.generation + 1
    stale := false
    nextRender := []
    flushList := v.flushList ++ v.nextRender }

/-- The drive after a render of a volume into its open track 0: all 15 records DIRTY. -/
def Drive.renderTrack (x : Drive) (v : Volume) : Drive :=
  { x with
    buffer := .opened 0 ((Machine.renderTrack v.name v.serial v.generation v.entries).map .dirty)
      (match x.buffer with
        | .opened _ _ ws => ws
        | _ => [])
    dirtyAge := x.startAge }

/-- The Story Table renders the volume of drive `d` into track 0, which is OPEN (R39). -/
def State.render (s : State) (d : DriveNo) : State :=
  match s.volume d with
  | none => s
  | some v => (s.setVolume d (some v.rendered)).onDrive d fun x => x.renderTrack v.rendered

end Sys2Proof.Machine
end

