-- ==== Sys2Proof/Machine/Channel.lean ====
section
/-! DEFINITION. The recording channel and its arbiter (R135 to R139). -/

namespace Sys2Proof.Machine

/-- The drive waits for the channel (R135). -/
def HeadStatus.waits : HeadStatus → Bool
  | .wait _ => true
  | .unloaded | .seek | .run _ | .opened => false

/-- No sector of a FILL has a result at its start (R140). -/
def noResults : List SectorResult := List.replicate 15 .unread

/-- The job a drive begins at its grant (R140, R145, R149). -/
def State.jobFor (s : State) (d : DriveNo) : Purpose → Job
  | .fill => .fill ((s.drive d).goal.getD 0) s.setup.readRetries 0 noResults
  | .flush => .flush ((s.drive d).buffer.track.getD 0) (s.drive d).buffer.dirtySectors 0
  | .lay => .lay ((s.drive d).goal.getD 0) false

/-- A drive in WAIT-CHANNEL(p) is granted the channel for p (R137). -/
def State.grant (s : State) (d : DriveNo) : State :=
  match (s.drive d).head with
  | .wait p => { s with channel := ⟨some (d, s.jobFor d p), d⟩ }.onDrive d fun x => { x with head := .run p }
  | _ => s

/-- A drive asks for the channel: it is granted at once if there is no holder, and waits otherwise (R136). While it
waits and works its unload count does not run (R111). Where another drive's job ends at the same event, the asking comes after that
ending, one of the two orders of R136 (the model's choice, log entry 25). -/
def State.ask (s : State) (d : DriveNo) (p : Purpose) : State :=
  let t := s.onDrive d fun x => { x with head := .wait p, unloadCount := none }
  match t.channel.holder with
  | none => t.grant d
  | some _ => t

/-- The drives in the cyclic order that starts after the last-granted one (R137). -/
def cyclicOrder (last : DriveNo) : List DriveNo := [last + 1, last + 2, last + 3, last + 4]

/-- The channel is released, and granted to the first waiting drive in cyclic order (R137). -/
def State.releaseChannel (s : State) : State :=
  let t := { s with channel := { s.channel with holder := none } }
  match (cyclicOrder s.channel.lastGranted).find? fun d => (s.drive d).head.waits with
  | none => t
  | some d => t.grant d

/-- A job drive `d` holds ends, and the channel is released (R138); nothing happens where it holds none. The drive's head
status has been changed before, so its own wait, if it had one, is withdrawn (R139). -/
def State.endJob (s : State) (d : DriveNo) : State :=
  match s.channel.holder with
  | some (e, _) => if e = d then s.releaseChannel else s
  | none => s

/-- Replace the job of the holder, as its progress advances. -/
def State.setJob (s : State) (d : DriveNo) (j : Job) : State :=
  { s with channel := { s.channel with holder := some (d, j) } }

/-- The job drive `d` holds. -/
def State.jobOf (s : State) (d : DriveNo) : Option Job :=
  match s.channel.holder with
  | some (e, j) => if e = d then some j else none
  | none => none

/-- The write gate of a drive as far as events show it: open while a LAY writes (R149). -/
def State.layGate (s : State) (d : DriveNo) : Bool :=
  match s.jobOf d with
  | some (.lay _ gate) => gate
  | _ => false

end Sys2Proof.Machine
end

