-- ==== Sys2Proof/Machine/Claims.lean ====
section
/-! DEFINITION. The claim unit's shared operations (R44 to R71): giving, freeing and losing handles, releasing the edit
claim, committing, withdrawing waiters. -/

namespace Sys2Proof.Machine

/-! ## Handles -/

/-- The handle names an entry as READ, EDIT or WAITING (R48). -/
def Handle.claims (h : Handle) (d : DriveNo) (slot : SlotNo) : Bool :=
  h == .read d slot || h == .edit d slot || h == .waiting d slot

/-- The drive of a READ or EDIT handle. -/
def Handle.openDrive : Handle → Option DriveNo
  | .read d _ => some d
  | .edit d _ => some d
  | .free | .waiting .. | .lost .. => none

/-- The drive of a READ, EDIT or WAITING handle. -/
def Handle.claimDrive : Handle → Option DriveNo
  | .read d _ => some d
  | .edit d _ => some d
  | .waiting d _ => some d
  | .free | .lost .. => none

/-- A handle that is made LOST keeps its drive, slot and mode (R44); FREE and LOST handles are not touched. -/
def Handle.makeLost : Handle → Handle
  | .read d slot => .lost d slot .read
  | .edit d slot => .lost d slot .edit
  | .waiting d slot => .lost d slot .edit
  | .free => .free
  | .lost d slot m => .lost d slot m

/-- The lowest-numbered FREE handle of a desk (R45). -/
def State.freeHandle (s : State) (l : LineNo) : Option HandleNo := allHandles.find? fun h => s.handle l h == .free

/-- The handle of a desk that has a given record. -/
def State.handleThat (s : State) (l : LineNo) (x : Handle) : Option HandleNo := allHandles.find? fun h => s.handle l h == x

/-- The number of READ and EDIT handles on a volume over all desks is zero (R66). -/
def State.noOpenHandles (s : State) (d : DriveNo) : Bool :=
  allLines.all fun l => allHandles.all fun h => !((s.handle l h).openDrive == some d)

/-- A READ, EDIT or WAITING handle is on the volume (R124). -/
def State.anyClaimHandle (s : State) (d : DriveNo) : Bool :=
  allLines.any fun l => allHandles.any fun h => (s.handle l h).claimDrive == some d

/-! ## Releasing the edit claim (R55) -/

/-- The desk at the head of an entry's wait list, with its WAITING handle. -/
def State.headWaiter (s : State) (d : DriveNo) (slot : SlotNo) : Option (LineNo × HandleNo) :=
  match (s.entry d slot).waiters with
  | [] => none
  | w :: _ => (s.handleThat w.desk (.waiting d slot)).map fun h => (w.desk, h)

/-- The edit claim of an entry passes on: the head waiter, if any, becomes the edit holder, its WAITING handle becomes EDIT, and its
timer stops with its place. The GRANTED notice is not sent here. -/
def State.passClaim (s : State) (d : DriveNo) (slot : SlotNo) : State :=
  let t :=
    match (s.entry d slot).waiters with
    | [] => s.onEntry d slot fun e => { e with editHolder := none }
    | w :: rest => s.onEntry d slot fun e => { e with editHolder := some w.desk, waiters := rest }
  match s.headWaiter d slot with
  | none => t
  | some (m, h) => t.setHandle m h (.edit d slot)

/-- The edit claim of an entry is released: it passes on, and the new holder, if any, is sent GRANTED. -/
def State.releaseClaim (s : State) (d : DriveNo) (slot : SlotNo) : State :=
  match s.headWaiter d slot with
  | none => s.passClaim d slot
  | some (m, h) => (s.passClaim d slot).notify m (.granted h d slot)

/-- A waiter leaves the wait list of an entry; those behind it move up (R54, R57). -/
def State.removeWaiter (s : State) (d : DriveNo) (slot : SlotNo) (l : LineNo) : State :=
  s.onEntry d slot fun e => { e with waiters := e.waiters.filter fun w => w.desk != l }

/-- Steps 1 to 3 of R59: the revision increases, the last writer is set, the marker is cleared and the stale mark set. -/
def State.commitChange (s : State) (l : LineNo) (d : DriveNo) (slot : SlotNo) : State :=
  (s.onEntry d slot fun e => { e with revision := e.revision + 1, lastWriter := some l, changed := false }).setStale d

/-- Steps 1 to 4 of R59: the change is committed and the edit claim is released. -/
def State.commit (s : State) (l : LineNo) (d : DriveNo) (slot : SlotNo) : State := (s.commitChange l d slot).releaseClaim d slot

/-- A desk line going DOWN closes one handle of its desk; a grant's notice waits for the other closings (R70, `offerGrants`). -/
def State.closeAtDown (s : State) (l : LineNo) (h : HandleNo) : State :=
  match s.handle l h with
  | .free => s
  | .read d slot => (s.onEntry d slot fun e => e.setReader l false).setHandle l h .free
  | .waiting d slot => (s.removeWaiter d slot l).setHandle l h .free
  | .edit d slot =>
    ((if (s.entry d slot).changed then s.commitChange l d slot else s).passClaim d slot).setHandle l h .free
  | .lost .. => s.setHandle l h .free

/-- The GRANTED notice of one handle that was WAITING in `before` and is EDIT now. -/
def State.offerGrant (before : State) (m : LineNo) (s : State) (h : HandleNo) : State :=
  match before.handle m h, s.handle m h with
  | .waiting .., .edit d slot => s.notify m (.granted h d slot)
  | _, _ => s

/-- The GRANTED notices of several grants made at one event: each desk's own in ascending number of the handle they name (R190). -/
def State.offerGrants (before s : State) : State :=
  allLines.foldl (fun t m => allHandles.foldl (before.offerGrant m) t) s

/-! ## Releases and losses of a volume (R64, R65, R67) -/

/-- One handle of a desk is withdrawn if it waits on the volume (R64). -/
def State.withdrawHandle (d : DriveNo) (l : LineNo) (s : State) (h : HandleNo) : State :=
  match s.handle l h with
  | .waiting e slot =>
    if e = d then ((s.removeWaiter d slot l).setHandle l h .free).notify l (.withdrawn h d slot) else s
  | .free | .read .. | .edit .. | .lost .. => s

/-- Every waiter of the volume is removed with WITHDRAWN, one notice per handle, in ascending handle number (R64, R190). -/
def State.withdrawWaiters (s : State) (d : DriveNo) : State :=
  allLines.foldl (fun t l => allHandles.foldl (State.withdrawHandle d l) t) s

/-- Each desk that holds READ or EDIT handles on the volume is sent RELEASE-PENDING (R64). -/
def State.notifyPending (s : State) (d : DriveNo) : State :=
  allLines.foldl
    (fun t l =>
      let set := handleSet fun h => (t.handle l h).openDrive == some d
      if set = 0 then t else t.notify l (.releasePending d set)) s

/-- The handles of one desk that name the volume as a test says become LOST, and the desk is sent one LOST notice naming
them (R65, R67). -/
def State.loseHandles (which : Handle → Option DriveNo) (d : DriveNo) (s : State) (l : LineNo) : State :=
  let set := handleSet fun h => which (s.handle l h) == some d
  if set = 0 then s
  else
    (allHandles.foldl
      (fun t h => if which (s.handle l h) = some d then t.setHandle l h (s.handle l h).makeLost else t) s).notify l
      (.lost d set)

/-- A forced release takes the claims: READ and EDIT handles become LOST, edit holders none, reader sets empty; markers
stay and nothing is committed (R65). -/
def State.takeClaims (s : State) (d : DriveNo) : State :=
  (allLines.foldl (State.loseHandles Handle.openDrive d) s).onVolume d fun v =>
    { v with entries := v.entries.map fun e => { e with editHolder := none, readers := Vector.replicate 8 false } }

/-- A volume leaves: READ, EDIT and WAITING handles become LOST; the claim fields go with the entries (R67). -/
def State.loseVolumeHandles (s : State) (d : DriveNo) : State :=
  allLines.foldl (State.loseHandles Handle.claimDrive d) s

end Sys2Proof.Machine
end

