-- ==== Sys2Proof/Machine/Copy.lean ====
section
/-! DEFINITION. The copy engine's steps (R154 to R168): posting, service of its items, completion and every early end. -/

namespace Sys2Proof.Machine

/-- The copy-reader count of an entry falls by one (R19). -/
def State.dropCopyReader (s : State) (d : DriveNo) (slot : SlotNo) : State :=
  s.onEntry d slot fun e => { e with copyReaders := e.copyReaders - 1 }

/-- READ-STEP: post the COPY-READ item for the next index at the source drive (R158). -/
def State.postCopyRead (s : State) (c : ContextNo) : State :=
  let x := s.context c
  let lsn := ((s.entry x.sourceDrive x.sourceSlot).lsn x.next).getD 0
  (s.onContext c fun y => { y with phase := .readStep }).post x.sourceDrive
    (.copyRead c x.sourceSlot x.next (trackOf lsn))

/-- WRITE-STEP: post the COPY-WRITE item for the next index at the destination drive (R159). -/
def State.postCopyWrite (s : State) (c : ContextNo) : State :=
  let x := s.context c
  let lsn := ((s.entry x.destDrive x.destSlot).lsn x.next).getD 0
  (s.onContext c fun y => { y with phase := .writeStep }).post x.destDrive
    (.copyWrite c x.destSlot x.next (trackOf lsn))

/-- A context's item is removed from whichever queue holds it (R163 step 1). -/
def State.removeCopyItems (s : State) (c : ContextNo) : State :=
  allDrives.foldl (fun t d => t.onDrive d fun x => x.removeItems fun i => i.copyContext == some c) s

/-- The FILLING destination is freed where its volume still has a catalogue and is not `leaving` (R163 step 2). -/
def State.freeDestination (s : State) (leaving : Option DriveNo) (x : CopyContext) : State :=
  if leaving = some x.destDrive then s
  else
    match s.volume x.destDrive with
    | none => s
    | some _ => (s.freeEntry x.destDrive x.destSlot).setStale x.destDrive

/-- A copy in READ-STEP or WRITE-STEP ends early with an outcome (R163). Its answer (step 6) comes before the GONE of a release that the
report of step 5 lets complete (the model's choice, log entry 22). -/
def State.endCopy (s : State) (leaving : Option DriveNo) (c : ContextNo) (oc : Outcome) (results : List Byte) : State :=
  let x := s.context c
  let t :=
    (((s.removeCopyItems c).freeDestination leaving x).dropCopyReader x.sourceDrive x.sourceSlot).setContext c
      CopyContext.reset
  if x.wanted then t.endRequest x.desk oc results else t

/-- Every copy in progress that uses drive `d` ends with an outcome (R166, R167). -/
def State.endCopiesOn (s : State) (leaving : Option DriveNo) (d : DriveNo) (oc : Outcome) : State :=
  allContexts.foldl (fun t c => if (t.context c).uses d then t.endCopy leaving c oc [] else t) s

/-- A copy completes (R161). -/
def State.completeCopy (s : State) (c : ContextNo) : State :=
  let x := s.context c
  let live := s.onEntry x.destDrive x.destSlot fun e => { e with use := .live, lastWriter := some x.desk }
  let told := ((live.bindNew x.destDrive x.destSlot).setStale x.destDrive).dropCopyReader x.sourceDrive x.sourceSlot
  (told.onContext c fun y => { y with phase := .commitWait }).registerWait x.destDrive (.context c)

/-- A sector of the source has been read: it goes into the staging sector, and the copy ends as halted or goes on to its WRITE-STEP; a
BAD one ends the copy (R158). -/
def State.copyRead (s : State) (c : ContextNo) (r : SectorRecord) : State :=
  match r with
  | .bad cause => s.endCopy none c .medium [cause.octet]
  | .clean os | .dirty os =>
    let t := s.onContext c fun y => { y with staging := os }
    if (s.context c).halt then t.endCopy none c .halted [] else t.postCopyWrite c

/-- Service of a COPY-READ item on drive `d`, the item already off the queue (R158); of a context that is not in READ-STEP, which no
run shows, nothing is done (log entry 21). -/
def State.serveCopyRead (s : State) (d : DriveNo) (c : ContextNo) : State :=
  let x := s.context c
  if x.phase = .readStep then
    s.copyRead c ((s.drive d).buffer.record (sectorOf (((s.entry x.sourceDrive x.sourceSlot).lsn x.next).getD 0)))
  else s

/-- A sector of the destination has been written: the next index rises, and the copy ends as halted, completes, or goes on to its next
READ-STEP (R159). -/
def State.copyWritten (s : State) (c : ContextNo) : State :=
  let t := s.onContext c fun y => { y with next := y.next + 1 }
  if (s.context c).halt then t.endCopy none c .halted []
  else if (s.context c).next + 1 = (s.context c).length then t.completeCopy c
  else t.postCopyRead c

/-- Service of a COPY-WRITE item on drive `d`, the item already off the queue (R159); of a context that is not in WRITE-STEP, which no
run shows, nothing is done (log entry 21). -/
def State.serveCopyWrite (s : State) (d : DriveNo) (c : ContextNo) : State :=
  let x := s.context c
  if x.phase = .writeStep then
    (s.onDrive d fun y =>
      y.writeRecord (sectorOf (((s.entry x.destDrive x.destSlot).lsn x.next).getD 0)) x.staging).copyWritten c
  else s

/-- The lowest-numbered FREE context (R157). -/
def State.freeContext (s : State) : Option ContextNo := allContexts.find? fun c => (s.context c).phase == .free

/-- The context that carries a desk's outstanding COPY. -/
def State.contextOf (s : State) (l : LineNo) : Option ContextNo :=
  allContexts.find? fun c => (s.context c).phase != .free && (s.context c).desk == l && (s.context c).wanted

end Sys2Proof.Machine
end

