-- ==== Sys2Proof/Machine/DriveUnit.lean ====
section
/-! DEFINITION. The drive unit's shared operations: ending items and volumes (R29, R117), head movement (R100 to R102),
spin-up and mount (R103, R104, R26 to R28), faults (R118, R119, R122), FORMAT's tracks (R126 to R128) and releases (R112,
R113). -/

namespace Sys2Proof.Machine

/-! ## Ending items and waits -/

/-- An item on a drive's queue ends with an outcome for its desk; a SECTOR-WRITE's data is discarded (R84, R116, R119). Copy
items end with their copies, CATALOGUE-WRITE and RELEASE items are dropped. -/
def State.endItem (oc : Outcome) (s : State) (i : WorkItem) : State :=
  match i.work with
  | .sectorRead l .. => s.endRequest l oc []
  | .sectorWrite l .. => (s.emptyTakenSlot l).endRequest l oc []
  | .format .. => s.endRequest 0 oc []
  | .copyRead .. | .copyWrite .. | .catalogueWrite | .release => s

/-- Items of a queue end with an outcome. -/
def State.endItems (s : State) (items : List WorkItem) (oc : Outcome) : State := items.foldl (State.endItem oc) s

/-- The commit waiters of a buffer (R133). -/
def Buffer.commitWaiters : Buffer → List LineNo
  | .opened _ _ ws => ws
  | .empty | .retained .. => []

/-- Commit waiters are answered (R91). -/
def State.answerCommits (s : State) (ws : List LineNo) (oc : Outcome) : State :=
  ws.foldl (fun t l => t.endRequest l oc []) s

/-- A FORMAT not yet answered in the MOUNTING that ends it is answered (R127). -/
def State.answerFormat (s : State) (d : DriveNo) (oc : Outcome) : State :=
  if (s.drive d).formatMount then (s.onDrive d fun x => { x with formatMount := false }).endRequest 0 oc [] else s

/-! ## A volume leaves (R29) -/

/-- The Story Table removes the catalogue of drive `d`: catalogue waiters VOLUME-LOST, claims lost, copies ended, the space
map, entries and record discarded, and the slugs that lost their binding bound anew (R24, R29). In the
order of R29: the catalogue waiters' answers come before the LOST notices and the copies' answers after them. -/
def State.leaveVolume (s : State) (d : DriveNo) : State :=
  let t := ((s.handAllWaiters d .volumeLost).loseVolumeHandles d).endCopiesOn (some d) d .volumeLost
  match t.volume d with
  | none => t
  | some v => v.boundSlugs.foldl State.promote (t.setVolume d none)

/-! ## Head movement (R100, R101) -/

/-- A recalibration begins with the step interval and settle in force (R101, R196). -/
def Drive.beginRecalibration (x : Drive) (t : Setup) : Drive :=
  { x with head := .seek, motion := .recalibrating t.stepInterval t.headSettle, unloadCount := none }

/-- The number of steps between two cylinders. -/
def stepsBetween (a b : Nat) : Nat := if a ≤ b then b - a else a - b

/-- A seek from a known cylinder begins (R100, R196). -/
def Drive.beginSeek (x : Drive) (t : Setup) (cylinder target : Nat) : Drive :=
  { x with
    head := .seek
    motion := .seeking target (stepsBetween cylinder target) t.stepInterval t.headSettle
    unloadCount := none }

/-- The head is loaded. -/
def HeadStatus.loaded : HeadStatus → Bool
  | .unloaded => false
  | .seek | .wait _ | .run _ | .opened => true

/-- The position and halt flag of the FORMAT item at the head of a queue. -/
def Drive.formatItem (x : Drive) : Option (Nat × Bool) :=
  match x.queue with
  | ⟨.format _ _ position halt, _⟩ :: _ => some (position, halt)
  | _ => none

/-- The drive acts on a set halt flag: the item leaves the queue, the drive is FOREIGN and FORMAT is answered HALTED (R128). -/
def State.haltFormat (s : State) (d : DriveNo) : State :=
  (s.onDrive d fun x =>
      { x.withStatus .foreign with
        head := .unloaded
        buffer := .empty
        motion := .still
        goal := none
        queue := [] }).endRequest 0 .halted []

/-- The head is on the cylinder of the track the drive moves to: the drive asks for the channel, or a FORMAT acts on its halt
flag (R104, R108, R122, R126, R128). -/
def State.arrive (s : State) (d : DriveNo) : State :=
  match (s.drive d).status with
  | .formatting =>
    match (s.drive d).formatItem with
    | some (_, true) => s.haltFormat d
    | _ => s.ask d .lay
  | .faulted => s.ask d .flush
  | .none | .spinUp | .mounting | .mounted | .releasing | .foreign | .unlocked => s.ask d .fill

/-- The drive seeks to the cylinder of a track, by a recalibration first if its cylinder is unknown; a head already loaded on
the cylinder needs no seek (R100, R101). -/
def State.seekTrack (s : State) (d : DriveNo) (track : Nat) : State :=
  let t := s.onDrive d fun x => { x with goal := some track }
  match (s.drive d).cylinder with
  | none => t.onDrive d fun x => x.beginRecalibration s.setup
  | some c =>
    if (s.drive d).head.loaded && c == cylinderOf track then t.arrive d
    else t.onDrive d fun x => x.beginSeek s.setup c (cylinderOf track)

/-- The drive leaves the open track for another: the buffer becomes EMPTY and the move begins (R108 steps 3 and 4, R130). -/
def State.moveTo (s : State) (d : DriveNo) (track : Nat) : State :=
  (s.onDrive d fun x => { x with buffer := .empty, dirtyAge := none }).seekTrack d track

/-! ## Spin-up and mount -/

/-- The index measurement is cleared (R98). -/
def Measurement.cleared : Measurement := ⟨0, 0, false⟩

/-- The speed monitor is armed in these statuses (R99). -/
def Drive.monitorArmed (x : Drive) : Bool :=
  match x.status with
  | .mounting | .mounted | .releasing | .formatting | .foreign => true
  | .faulted => x.recover == some .running
  | .none | .spinUp | .unlocked => false

/-- Arming the speed monitor sets the bad run to 0 (R99). -/
def Drive.armMonitor (x : Drive) : Drive := { x with measurement := { x.measurement with bad := 0 } }

/-- The drive enters SPIN-UP: door lock held, protect flag from the write-protect line, measurement cleared, spin-up timer
started (R103). -/
def Drive.enterSpinUp (x : Drive) : Drive :=
  { x.withStatus .spinUp with
    protect := x.writeProtect
    measurement := Measurement.cleared
    spinUpTimer := true }

/-- The third good period in SPIN-UP: the timer stops and the drive goes to MOUNTING and recalibrates (R103, R104). -/
def State.enterMounting (s : State) (d : DriveNo) : State :=
  s.onDrive d fun x =>
    ({ (x.withStatus .mounting).armMonitor with spinUpTimer := false, goal := some 0 }).beginRecalibration s.setup

/-- The notice of a volume that is MOUNTED (R28, R122). -/
def State.mountedNotice (s : State) (d : DriveNo) (v : Volume) : Notice :=
  .mounted d v.serial v.name (s.drive d).protect

/-- The mount load at the end of the fill of track 0 in MOUNTING (R26 to R28, R104, R127). MOUNTED is offered before a FORMAT's answer
is produced (the model's choice, log entry 22). -/
def State.mountLoad (s : State) (d : DriveNo) : State :=
  match loadVolume (s.drive d).buffer.records with
  | none =>
    (s.onDrive d fun x => { x.withStatus .foreign with head := .unloaded, buffer := .empty }).answerFormat d .medium
  | some v =>
    let t := ((s.setVolume d (some v)).bindLoaded d).onDrive d fun x => x.withStatus .mounted
    (t.broadcast (t.mountedNotice d v)).answerFormat d .done

/-! ## Faults -/

/-- A fault that cuts a head movement finds its last step given or not yet given: the order choice decides whether the
present cylinder is already the movement's target (R100, R101; log entry 2). -/
def State.cutMotion (s : State) (d : DriveNo) (cause : FaultCause) : State :=
  if cause = .seek then s
  else
    match (s.drive d).motion with
    | .still => s
    | .recalibrating .. =>
      if s.popChoice.1 = 0 then s.popChoice.2 else s.popChoice.2.onDrive d fun x => { x with cylinder := some 0 }
    | .seeking target .. =>
      if s.popChoice.1 = 0 then s.popChoice.2 else s.popChoice.2.onDrive d fun x => { x with cylinder := some target }

/-- The buffer at a fault: RETAINED with its records if one is DIRTY, EMPTY otherwise (R119). -/
def Buffer.afterFault (b : Buffer) : Buffer :=
  match b with
  | .empty => .empty
  | .opened t rs _ => if b.dirtyCount = 0 then .empty else .retained t rs
  | .retained t rs => if b.dirtyCount = 0 then .empty else .retained t rs

/-- The origin of a fault raised in a status (R118). -/
def VolumeStatus.origin : VolumeStatus → FaultOrigin
  | .mounted | .releasing => .mountedVolume
  | .none | .spinUp | .mounting | .formatting | .foreign | .unlocked | .faulted => .noVolume

/-- The drive's record after a fault of R119. -/
def Drive.afterFault (x : Drive) (cause : FaultCause) : Drive :=
  { x.withStatus .faulted with
    fault := some ⟨cause, x.status.origin⟩
    head := .unloaded
    motion := .still
    goal := none
    cylinder := if cause = .seek then none else x.cylinder
    spinUpTimer := false
    unloadCount := none
    dirtyAge := none
    reseek := false
    unloading := false
    buffer := x.buffer.afterFault
    queue := [] }

/-- A fault is raised in SPIN-UP, MOUNTING, MOUNTED, RELEASING, FORMATTING or FOREIGN (R119). The channel passes to its next holder
before the ended copies may post items (log entry 25), and the requests that end are answered before FAULT is offered, which R119 and
R167 leave open (the model's choices, log entry 22). A GONE of another drive, whose release an ended copy completes, comes after FAULT
(the model's choice, log entry 23). -/
def State.newFault (s0 : State) (d : DriveNo) (cause : FaultCause) : State :=
  let s := s0.cutMotion d cause
  let x := s.drive d
  ((((((((s.onDrive d fun y => y.afterFault cause).endJob d).endItems x.queue .driveFault).answerCommits
    x.buffer.commitWaiters .writeFault).answerFormat d .driveFault).endCopiesOn none d .driveFault).handAllWaiters d
    .driveFault)).broadcast (.fault d cause x.status.origin)

/-- The drive's record after a fault during a RECOVER (R122): the cause is new, the origin stays. -/
def Drive.afterRecoverFault (x : Drive) (cause : FaultCause) : Drive :=
  { x with
    fault := x.fault.map fun f => { f with cause := cause }
    head := .unloaded
    motion := .still
    goal := none
    cylinder := if cause = .seek then none else x.cylinder
    spinUpTimer := false
    recover := none }

/-- The origin in the fault record. -/
def Drive.faultOrigin (x : Drive) : FaultOrigin :=
  match x.fault with
  | some f => f.origin
  | none => .noVolume

/-- A fault is raised while a RECOVER runs (R122): RECOVER is answered before FAULT is offered, an order R122 leaves open (the model's
choice, log entry 22). -/
def State.recoverFault (s0 : State) (d : DriveNo) (cause : FaultCause) : State :=
  let s := s0.cutMotion d cause
  (((s.onDrive d fun y => y.afterRecoverFault cause).endJob d).endRequest 0 .driveFault []).broadcast
    (.fault d cause (s.drive d).faultOrigin)

/-- A fault is raised on a drive (R118). -/
def State.raiseFault (s : State) (d : DriveNo) (cause : FaultCause) : State :=
  match (s.drive d).status with
  | .spinUp | .mounting | .mounted | .releasing | .formatting | .foreign => s.newFault d cause
  | .faulted => if (s.drive d).recover.isSome then s.recoverFault d cause else s
  | .none | .unlocked => s

/-! ## RECOVER (R121, R122) -/

/-- The spin check has passed: the monitor is armed and the drive recalibrates (R121). -/
def State.spinCheckPassed (s : State) (d : DriveNo) : State :=
  s.onDrive d fun x =>
    ({ x.armMonitor with spinUpTimer := false, recover := some .running, goal := x.buffer.track }).beginRecalibration
      s.setup

/-- A RECOVER returns the volume to MOUNTED: the stale mark, if set, posts its item, MOUNTED is broadcast and RECOVER is
answered DONE (R122). MOUNTED is offered before the answer is produced (the model's choice, log entry 22). -/
def State.recovered (s : State) (d : DriveNo) : State :=
  let t :=
    (s.onDrive d fun x => { x.withStatus .mounted with fault := none, recover := none, motion := .still, goal := none })
  let u := t.postCatalogue d
  let w :=
    match u.volume d with
    | none => u
    | some v => u.broadcast (u.mountedNotice d v)
  w.endRequest 0 .done []

/-- A RECOVER's recalibration has ended on cylinder 0 (R122): the flush of a RETAINED buffer, MOUNTED with the head unloaded,
or FOREIGN. -/
def State.recoverRecalibrated (s : State) (d : DriveNo) : State :=
  match (s.drive d).faultOrigin, (s.drive d).buffer.track with
  | .mountedVolume, some track => s.seekTrack d track
  | .mountedVolume, none => (s.onDrive d fun x => { x with head := .unloaded }).recovered d
  | .noVolume, _ =>
    (s.onDrive d fun x =>
        { x.withStatus .foreign with
          head := .unloaded
          fault := none
          recover := none
          motion := .still
          goal := none
          buffer := .empty }).endRequest 0 .done []

/-! ## Removal (R116, R117) -/

/-- The drive's own record after its ready line has fallen (R116). -/
def Drive.removed (x : Drive) : Drive :=
  { x.withStatus .none with
    head := .unloaded
    cylinder := none
    protect := false
    fault := none
    measurement := Measurement.cleared
    spinUpTimer := false
    unloadCount := none
    dirtyAge := none
    reseek := false
    queue := []
    buffer := .empty
    motion := .still
    goal := none
    unloading := false
    recover := none
    ready := false }

/-- The endings at a removal that no catalogue enters into: the job, the items, the commit waiters, an unanswered FORMAT and a
RECOVER in progress (R116, R117). Their answers are produced before any LOST or GONE of the removal is offered, an order R117 leaves
open (the model's choice, log entry 22). The channel passes on before the ended copies may post items (log entry 25). -/
def State.removeWork (s : State) (d : DriveNo) : State :=
  let x := s.drive d
  let t :=
    ((((s.onDrive d Drive.removed).endJob d).endItems x.queue .volumeLost).answerCommits x.buffer.commitWaiters
      .volumeLost).answerFormat d .volumeLost
  if x.recover.isSome then t.endRequest 0 .volumeLost [] else t

/-- The volume of a removed diskette leaves and GONE is broadcast; the order choice says which block's notices are offered
first (R117, R190; log entry 2). A GONE of another drive, whose release an ended copy completes, comes after both (the model's choice,
log entry 23). -/
def State.removeVolume (s : State) (d : DriveNo) (lost : Nat) : State :=
  if s.popChoice.1 = 0 then (s.popChoice.2.leaveVolume d).broadcast (.gone d lost)
  else (s.popChoice.2.broadcast (.gone d lost)).leaveVolume d

/-- The ready line falls (R116, R117); in NONE it cannot, and nothing but the level changes. -/
def State.fallReady (s : State) (d : DriveNo) : State :=
  match (s.drive d).status with
  | .none => s.onDrive d fun x => { x with ready := false }
  | .spinUp | .mounting | .mounted | .releasing | .formatting | .foreign | .unlocked | .faulted =>
    match s.volume d with
    | none => s.removeWork d
    | some _ => (s.removeWork d).removeVolume d (s.drive d).buffer.dirtyCount

/-! ## Releases (R112, R113) -/

/-- A release begins on a MOUNTED volume (R112, R64). -/
def State.beginRelease (s : State) (d : DriveNo) : State :=
  ((s.onDrive d fun x => x.withStatus .releasing).withdrawWaiters d).notifyPending d

/-- A forced release takes the claims, the sector items and the copies of a volume (R113, R65). The LOST notices are offered before
the ended requests are answered; R113 needs no order among them (the model's choice, log entry 22). The GONE of a RELEASE item that
completes at this event comes after them all (the model's choice, log entries 22 and 23). -/
def State.takeAway (s : State) (d : DriveNo) : State :=
  let t := ((s.onDrive d fun x => x.withStatus .releasing).withdrawWaiters d).takeClaims d
  let items := (t.drive d).queue.filter fun i => i.sectorDesk.isSome
  (((t.onDrive d fun x => x.removeItems fun i => i.sectorDesk.isSome).endItems items .volumeLost).endCopiesOn none d
    .volumeLost)

/-- A forced release on a MOUNTED or RELEASING volume; with the RELEASE item already in the queue it changes nothing (R113). -/
def State.forceRelease (s : State) (d : DriveNo) : State :=
  if (s.drive d).queue.any WorkItem.isRelease then s else s.takeAway d

/-- The conditions of the RELEASE item hold, and it is not yet in the queue (R112, R66, R155). -/
def State.releaseDue (s : State) (d : DriveNo) : Bool :=
  (s.drive d).status == .releasing && s.noOpenHandles d && !(allContexts.any fun c => (s.context c).uses d) &&
    !((s.drive d).queue.any WorkItem.isRelease)

/-! ## FORMAT (R125 to R127) -/

/-- FORMAT taken on a volume makes it leave, its DIRTY records counted (R125). -/
def State.formatLeave (s : State) (d : DriveNo) : State :=
  match s.volume d with
  | none => s
  | some _ =>
    ((s.onDrive d fun x => { x with buffer := .empty, head := .unloaded, dirtyAge := none, unloadCount := none }).leaveVolume
      d).broadcast (.gone d (s.drive d).buffer.dirtyCount)

/-- FORMAT is taken: the volume leaves, the drive is FORMATTING, and the FORMAT item is posted and taken up (R125, R126). -/
def State.beginFormat (s : State) (d : DriveNo) (name : List Byte) (serial : Word16) : State :=
  let t := s.formatLeave d
  (t.onDrive d fun x =>
    let y := if x.monitorArmed then x else x.armMonitor
    { y.withStatus .formatting with buffer := .empty, queue := [⟨.format name serial 0 false, true⟩] }).seekTrack d
      (formatTrack 0)

/-- The LAY at the FORMAT item's position has ended: the next position, a halt, or the mount that ends the FORMAT (R126 to
R128). The channel is released before the drive asks again (R137). -/
def State.layComplete (s : State) (d : DriveNo) : State :=
  match (s.drive d).queue with
  | ⟨.format name serial position halt, _⟩ :: _ =>
    if Config.lastPosition ≤ position then
      let t := s.onDrive d fun x =>
        { x.withStatus .mounting with queue := [], formatMount := true, goal := some 0, head := .seek }
      (t.endJob d).ask d .fill
    else
      let t :=
        (s.onDrive d fun x =>
          { x with queue := [⟨.format name serial (position + 1) halt, true⟩], head := .seek }).endJob d
      if halt then t.haltFormat d else t.seekTrack d (formatTrack (position + 1))
  | _ => s

end Sys2Proof.Machine
end

