-- ==== Sys2Proof/Machine/Service.lean ====
section
/-! DEFINITION. The work queue and its service (R83, R86, R90, R106 to R111, R115), the three channel jobs and their ends (R140
to R150), and what an index pulse does (R98, R99). -/

namespace Sys2Proof.Machine

/-! ## Service of sector items -/

/-- Service of a SECTOR-READ item, off the queue (R83, R86). -/
def State.serveSectorRead (s : State) (d : DriveNo) (l : LineNo) (slot : SlotNo) (index lsn : Nat) : State :=
  let e := s.entry d slot
  if e.lsn index = some lsn then
    match (s.drive d).buffer.record (sectorOf lsn) with
    | .bad cause => s.endRequest l .medium [cause.octet]
    | .clean os | .dirty os =>
      s.endRequest l .done (octets2 (e.textOctets index) ++ os.take (e.textOctets index))
  else s.endRequest l .badIndex []

/-- The data of a SECTOR-WRITE: handed to the item, or in the desk's receive slot after handle, index, count and flag (R82,
R181). -/
def State.writeData (s : State) (l : LineNo) (data : Option (List Byte)) : List Byte :=
  match data with
  | some os => os
  | none =>
    match (s.line l).receiveSlot with
    | some r => r.frame.body.drop 5
    | none => []

/-- Add a desk to the commit waiters of an OPEN buffer (R90, R133). -/
def Buffer.addCommit (b : Buffer) (l : LineNo) : Buffer :=
  match b with
  | .opened t rs ws => .opened t rs (ws ++ [l])
  | .empty => .empty
  | .retained t rs => .retained t rs

/-- A served commit WRITE: the desk waits for the flush, unless the WRITE is leftover work, whose answer nobody wants; in both
cases the flush is owed (R90, R109, R181; log entry 12). -/
def State.awaitCommit (s : State) (d : DriveNo) (l : LineNo) : State :=
  if (s.desk l).outstanding.isSome then s.onDrive d fun x => { x with buffer := x.buffer.addCommit l }
  else s.endRequest l .done []

/-- Service of a SECTOR-WRITE item, off the queue (R83, R90). One that fails the check of R83 owes no flush, the commit flag set or
not, whatever else the buffer holds (the model's choice, log entry 12). -/
def State.serveSectorWrite (s : State) (d : DriveNo) (l : LineNo) (slot : SlotNo) (index lsn count : Nat) (commit : Bool)
    (data : Option (List Byte)) : State :=
  let octets := padTo 512 ((s.writeData l data).take count)
  let t := s.emptyTakenSlot l
  if (s.entry d slot).lsn index = some lsn then
    let u := t.onDrive d fun x => x.writeRecord (sectorOf lsn) octets
    if commit then (u.awaitCommit d l).ask d .flush else u.endRequest l .done []
  else t.endRequest l .badIndex []

/-! ## Taking up the head item -/

/-- Steps 3 to 5 of the RELEASE item (R115): head unloaded, buffer EMPTY, the volume leaves, UNLOCKED, GONE broadcast. This comes after
whatever else the same event answers and offers, orders the spec leaves open (the model's choices, log entries 22 and 23). -/
def State.finishRelease (s : State) (d : DriveNo) : State :=
  let t := (s.onDrive d fun x =>
    { x with head := .unloaded, buffer := .empty, dirtyAge := none, unloadCount := none, goal := none }).leaveVolume d
  (t.onDrive d fun x => { x.dropHead.withStatus .unlocked with fault := none }).broadcast (.gone d 0)

/-- The stale mark of the volume in drive `d`. -/
def State.stale (s : State) (d : DriveNo) : Bool :=
  match s.volume d with
  | none => false
  | some v => v.stale

/-- The buffer is OPEN on a track. -/
def Buffer.openOn (b : Buffer) (track : Nat) : Bool :=
  match b with
  | .opened t _ _ => t == track
  | .empty | .retained .. => false

/-- The track an item needs (R106); a CATALOGUE-WRITE needs track 0 (R39). -/
def Work.track : Work → Nat
  | .sectorRead _ _ _ _ lsn => trackOf lsn
  | .sectorWrite _ _ _ _ lsn .. => trackOf lsn
  | .copyRead _ _ _ track => track
  | .copyWrite _ _ _ track => track
  | .catalogueWrite | .release | .format .. => 0

/-- The owner does the item's work in the open track, and the item leaves the queue (R109). -/
def State.serve (s0 : State) (d : DriveNo) (w : Work) : State :=
  let s := s0.onDrive d Drive.dropHead
  match w with
  | .sectorRead l _ slot index lsn => s.serveSectorRead d l slot index lsn
  | .sectorWrite l _ slot index lsn count commit data => s.serveSectorWrite d l slot index lsn count commit data
  | .copyRead c .. => s.serveCopyRead d c
  | .copyWrite c .. => s.serveCopyWrite d c
  | .catalogueWrite => (s.render d).ask d .flush
  | .release | .format .. => s

/-- The next step of the RELEASE item (R115): flush what is DIRTY, render a stale catalogue into track 0 and flush it, or
finish. -/
def State.stepRelease (s : State) (d : DriveNo) : State :=
  if 0 < (s.drive d).buffer.dirtyCount then s.ask d .flush
  else if s.stale d then
    if (s.drive d).buffer.openOn 0 then (s.render d).ask d .flush else s.moveTo d 0
  else s.finishRelease d

/-- The head item of a queue has begun (R107). -/
def Drive.beginHead (x : Drive) : Drive :=
  match x.queue with
  | [] => x
  | i :: rest => { x with queue := { i with begun := true } :: rest }

/-- The drive takes up its head item (R108, R115). -/
def State.takeUp (s0 : State) (d : DriveNo) (w : Work) : State :=
  let s := s0.onDrive d Drive.beginHead
  match w with
  | .release => s.stepRelease d
  | .format .. => s
  | .sectorRead .. | .sectorWrite .. | .copyRead .. | .copyWrite .. | .catalogueWrite =>
    if (s.drive d).buffer.openOn w.track then s.serve d w
    else if 0 < (s.drive d).buffer.dirtyCount then s.ask d .flush
    else s.moveTo d w.track

/-- The dirty age has reached the setting in force while the buffer holds a DIRTY record (R110). -/
def State.ageDue (s : State) (d : DriveNo) : Bool :=
  match (s.drive d).dirtyAge with
  | none => false
  | some n => decide (s.setup.dirtyAge ≤ n) && decide (0 < (s.drive d).buffer.dirtyCount)

/-- The volume is served: MOUNTED or RELEASING (R108). -/
def VolumeStatus.serves : VolumeStatus → Bool
  | .mounted | .releasing => true
  | .none | .spinUp | .mounting | .formatting | .foreign | .unlocked | .faulted => false

/-- The head is at rest, OPEN or UNLOADED, with no flush owed (R108). -/
def HeadStatus.atRest : HeadStatus → Bool
  | .opened | .unloaded => true
  | .seek | .wait _ | .run _ => false

/-- The drive has something to do that takes no time: post a due RELEASE item, take up its head item, or start its unload
count (R108, R111, R112). -/
def State.driveReady (s : State) (d : DriveNo) : Bool :=
  s.releaseDue d ||
    ((s.drive d).status.serves && (s.drive d).head.atRest &&
      (!(s.drive d).queue.isEmpty || ((s.drive d).head == .opened && (s.drive d).unloadCount.isNone)))

/-- The drive does it. A RELEASE item that an event makes due is posted and taken up after that event's own answers and notices (the
model's choice, log entries 22 and 23). -/
def State.driveStep (s : State) (d : DriveNo) : State :=
  if s.releaseDue d then s.post d .release
  else
    match (s.drive d).queue with
    | [] => s.onDrive d fun x => { x with unloadCount := some 0 }
    | i :: _ => if (s.drive d).head == .opened && s.ageDue d then s.ask d .flush else s.takeUp d i.work

/-! ## FILL (R140 to R144) -/

/-- The result of one sector after a revolution: the first matching header of its number is read on (R141). -/
def sectorResult (matching : List SectorFrame) (sector : Nat) (r : SectorResult) : SectorResult :=
  match r with
  | .good os => .good os
  | .unread | .bad _ =>
    match matching.find? fun f => headerSector f.header == sector with
    | some f => dataResult f.data
    | none => r

/-- The results after a revolution. -/
def revolutionResults (matching : List SectorFrame) (rs : List SectorResult) : List SectorResult :=
  (allSectors.zip rs).map fun x => sectorResult matching x.1 x.2

/-- The result is good. -/
def SectorResult.isGood : SectorResult → Bool
  | .good _ => true
  | .unread | .bad _ => false

/-- The record a result gives at completion (R144). -/
def SectorResult.record : SectorResult → SectorRecord
  | .good os => .clean os
  | .bad cause => .bad cause
  | .unread => .bad .missing

/-- A FILL completes: the buffer is OPEN on the track, the channel is released, and a MOUNTING drive is loaded (R144). -/
def State.fillComplete (s : State) (d : DriveNo) (track : Nat) (rs : List SectorResult) : State :=
  let t :=
    (s.onDrive d fun x =>
      { x with
        buffer := .opened track (rs.map SectorResult.record) []
        head := .opened
        goal := none
        reseek := false }).endJob d
  match (t.drive d).status with
  | .mounting => t.mountLoad d
  | .none | .spinUp | .mounted | .releasing | .formatting | .foreign | .unlocked | .faulted => t

/-- A FILL ends at a cylinder mismatch: the drive recalibrates and reseeks once, or raises a SEEK fault (R142, R102). -/
def State.fillMismatch (s : State) (d : DriveNo) : State :=
  if (s.drive d).reseek then s.raiseFault d .seek
  else (s.onDrive d fun x => { x with reseek := true }.beginRecalibration s.setup).endJob d

/-- The index pulse that ends a revolution of a FILL (R141 to R143). -/
def State.fillRevolution (s : State) (d : DriveNo) (track retries revolution : Nat) (rs : List SectorResult)
    (reading : Reading) : State :=
  let seen := (sectorFrames reading).filter fun f => headerSeen f.header (sideOf track)
  let matching := seen.filter fun f => headerNames f.header (cylinderOf track)
  if revolution == 1 && !seen.isEmpty && matching.isEmpty then s.fillMismatch d
  else
    let results := revolutionResults matching rs
    if results.all SectorResult.isGood || decide (retries + 1 ≤ revolution) then s.fillComplete d track results
    else s.setJob d (.fill track retries (revolution + 1) results)

/-! ## FLUSH (R145 to R148) -/

/-- A FLUSH completes with every listed record written (R146): commit waiters and the catalogue flush list are handed DONE, an
unload that was not given up is made (R111), and a RECOVER completes (R122). -/
def State.flushComplete (s : State) (d : DriveNo) : State :=
  let x := s.drive d
  let t :=
    (s.onDrive d fun y =>
      { y with
        head := .opened
        dirtyAge := none
        buffer :=
          match y.buffer with
          | .opened track rs _ => .opened track rs []
          | .retained track rs => .opened track rs []
          | .empty => .empty }).endJob d
  let u := (t.answerCommits x.buffer.commitWaiters .done).handFlushed d
  if x.status == .faulted then u.recovered d
  else if x.unloading then
    u.onDrive d fun y => { y with head := .unloaded, buffer := .empty, unloading := false, unloadCount := none }
  else u

/-- A FLUSH of a track rewrites the data field after this header: the header is seen on the selected side, names the expected
cylinder, and names a sector still on the list. Any other header causes no write (R10, R145). -/
def flushWrites (track : Nat) (toWrite : List Nat) (header : HeaderField) : Bool :=
  headerSeen header (sideOf track) && headerNames header (cylinderOf track) && toWrite.contains (headerSector header)

/-- The rewrite of a listed record's data field ends: the record is CLEAN and leaves the list (R10, R145). -/
def State.sectorWritten (s : State) (d : DriveNo) (header : HeaderField) : State :=
  match s.jobOf d with
  | some (.flush track toWrite pulses) =>
    if flushWrites track toWrite header then
      let sector := headerSector header
      let os := ((s.drive d).buffer.record sector).octets
      let t := s.onDrive d fun x =>
        { x with
          buffer := x.buffer.setRecord sector (.clean os)
          writeData := some (.rewrite track sector os) }
      let left := toWrite.filter (· != sector)
      if left.isEmpty then t.flushComplete d else t.setJob d (.flush track left pulses)
    else s
  | _ => s

/-! ## An index pulse (R98, R99) -/

/-- The measurement after a pulse (R98). -/
def Measurement.pulse (m : Measurement) (period : Nat) : Measurement :=
  if !m.seen then { m with seen := true }
  else if decide (Config.goodPeriodLow ≤ period) && decide (period ≤ Config.goodPeriodHigh) then
    ⟨min 3 (m.good + 1), 0, true⟩
  else ⟨0, min 3 (m.bad + 1), true⟩

/-- The revolution counts advance (R98, R110, R111). -/
def Drive.countPulse (x : Drive) : Drive :=
  { x with
    unloadCount := x.unloadCount.map (· + 1)
    dirtyAge := if 0 < x.buffer.dirtyCount then x.dirtyAge.map (· + 1) else x.dirtyAge }

/-- The unload count has reached the setting in force (R111). -/
def State.unloadDue (s : State) (d : DriveNo) : Bool :=
  match (s.drive d).unloadCount with
  | none => false
  | some n => decide (s.setup.unload ≤ n)

/-- The drive unloads, flushing DIRTY records first (R111). -/
def State.unload (s : State) (d : DriveNo) : State :=
  if 0 < (s.drive d).buffer.dirtyCount then (s.onDrive d fun x => { x with unloading := true }).ask d .flush
  else s.onDrive d fun x => { x with head := .unloaded, buffer := .empty, dirtyAge := none, unloadCount := none }

/-- A pulse on a drive with head OPEN and an empty queue: the dirty age is compared first, then the unload count (R110, R111;
log entry 11). -/
def State.idlePulse (s : State) (d : DriveNo) : State :=
  if (s.drive d).status.serves && (s.drive d).head == .opened && (s.drive d).queue.isEmpty then
    if s.ageDue d then s.ask d .flush
    else if s.unloadDue d then s.unload d
    else s
  else s

/-- The contents a LAY writes: those of the FORMAT item's position (R8, R149). -/
def Drive.layContents (x : Drive) : List SectorData :=
  match x.queue with
  | ⟨.format name serial position _, _⟩ :: _ => formatContents name serial position
  | _ => []

/-- The job of the drive advances at a pulse (R141 to R143, R147, R149); a drive without a job compares its counts. -/
def State.jobPulse (s : State) (d : DriveNo) (period : Nat) (reading : Reading) : State :=
  match s.jobOf d with
  | none => s.idlePulse d
  | some (.fill track retries 0 rs) => s.setJob d (.fill track retries 1 rs)
  | some (.fill track retries (n + 1) rs) => s.fillRevolution d track retries (n + 1) rs reading
  | some (.flush track toWrite pulses) =>
    if 1 ≤ pulses then s.raiseFault d .write else s.setJob d (.flush track toWrite (pulses + 1))
  | some (.lay track false) =>
    (s.onDrive d fun x => { x with writeData := some (.lay track x.layContents none) }).setJob d (.lay track true)
  | some (.lay track true) =>
    (s.onDrive d fun x => { x with writeData := some (.lay track x.layContents (some period)) }).layComplete d

/-- The third bad period is complete while the monitor is armed (R99). -/
def Drive.speedFault (x : Drive) : Bool := x.monitorArmed && decide (3 ≤ x.measurement.bad)

/-- The pulse on a drive whose third bad period it completes: the SPEED fault is raised, before or after the job's own share of
the pulse, as the order choice says (R99, R152; log entry 2). -/
def State.speedPulse (s : State) (d : DriveNo) (period : Nat) (reading : Reading) : State :=
  if s.popChoice.1 = 0 then s.popChoice.2.raiseFault d .speed
  else
    let t := s.popChoice.2.jobPulse d period reading
    if (t.drive d).speedFault then t.raiseFault d .speed else t

/-- What an index pulse does on a drive whose ready line is up (R98). -/
def State.indexPulse (s0 : State) (d : DriveNo) (period : Nat) (reading : Reading) : State :=
  let s := s0.onDrive d fun x => ({ x with measurement := x.measurement.pulse period }).countPulse
  let x := s.drive d
  if x.status == .spinUp && x.measurement.good == 3 then s.enterMounting d
  else if x.status == .faulted && x.recover == some .spinCheck && x.measurement.good == 3 then s.spinCheckPassed d
  else if x.speedFault then s.speedPulse d period reading
  else s.jobPulse d period reading

/-! ## The ends of head movements (R100, R101) -/

/-- A seek ends with its settle (R100). -/
def State.seekEnds (s : State) (d : DriveNo) : State :=
  match (s.drive d).motion with
  | .seeking target .. => (s.onDrive d fun x => { x with cylinder := some target, motion := .still }).arrive d
  | .still | .recalibrating .. => s

/-- A recalibration ends on cylinder 0, and the move it was part of goes on, or fails with a SEEK fault (R101). -/
def State.recalibrationEnds (s : State) (d : DriveNo) (found : Bool) : State :=
  match (s.drive d).motion with
  | .recalibrating .. =>
    let t := s.onDrive d fun x => { x with cylinder := some 0, motion := .still }
    if !found then s.raiseFault d .seek
    else if (s.drive d).status == .faulted then t.recoverRecalibrated d
    else t.seekTrack d ((s.drive d).goal.getD 0)
  | .still | .seeking .. => s

end Sys2Proof.Machine
end

