-- ==== Sys2Proof/Machine/Operands.lean ====
section
/-! DEFINITION. The operand forms of requests: the kinds of R185, the body of each kind and the range of each operand (R13),
and the bodies that the request commands put on a line. -/

namespace Sys2Proof.Machine

/-! ## Operands (R13) -/

/-- A drive operand: 0 to 3. -/
def driveOperand (b : Byte) : Option DriveNo := if h : b.toNat < 4 then some ⟨b.toNat, h⟩ else none

/-- A slot operand: 0 to 111. -/
def slotOperand (b : Byte) : Option SlotNo := if h : b.toNat < 112 then some ⟨b.toNat, h⟩ else none

/-- A handle operand: 1 to 4. -/
def handleOperand (b : Byte) : Option HandleNo := if h : b.toNat - 1 < 4 ∧ b ≠ 0 then some ⟨b.toNat - 1, h.1⟩ else none

/-- A flag operand: 0 clear, 1 set. -/
def flagOperand (b : Byte) : Option Bool := if b = 0 then some false else if b = 1 then some true else none

/-- A qualifier: a drive, or 255 for an unqualified request. -/
def qualifierOperand (b : Byte) : Option (Option DriveNo) := if b = 255 then some none else (driveOperand b).map some

/-- A slug operand: 12 octets, well-formed. -/
def slugOperand (os : List Byte) : Option Slug := if slugWellFormed os then some os else none

/-- A mode operand: 0 READ, 1 EDIT. -/
def modeOperand (b : Byte) : Option Mode := if b = 0 then some .read else if b = 1 then some .edit else none

/-- A mask operand: bits 9 to 15 zero. -/
def maskOperand (w : Word16) : Option (BitVec 9) := if w.toNat < 512 then some (BitVec.ofNat 9 w.toNat) else none

/-- A volume name operand: 8 octets, each 0x20 to 0x7E. -/
def nameOperand (os : List Byte) : Option (List Byte) := if nameWellFormed os then some os else none

/-- Two octets of a body as a number. -/
def wordAt (os : List Byte) (i : Nat) : Word16 := BitVec.ofNat 16 (number (octetsAt os i 2))

/-! ## Requests -/

/-- A well-formed request with its operands. SETUP's values are as sent, not yet clamped. -/
inductive Request where
  | find (qualifier : Option DriveNo) (slug : Slug)
  | list (drive : DriveNo) (fromSlot : SlotNo)
  | openStory (qualifier : Option DriveNo) (slug : Slug) (mode : Mode) (wait : Bool)
  | close (handle : HandleNo)
  | create (drive : DriveNo) (slug : Slug)
  | read (handle : HandleNo) (index : Nat)
  | write (handle : HandleNo) (index count : Nat) (commit : Bool)
  | trim (handle : HandleNo) (length tail : Nat)
  | stage (handle : HandleNo) (stage : Stage)
  | purge (handle : HandleNo)
  | copy (handle : HandleNo) (drive : DriveNo) (slug : Slug)
  | halt
  | clear
  | status
  | volume (drive : DriveNo)
  | mask (mask : BitVec 9)
  | breakClaim (drive : DriveNo) (slot : SlotNo)
  | release (drive : DriveNo) (force : Bool)
  | mount (drive : DriveNo)
  | format (drive : DriveNo) (name : List Byte) (serial : Word16)
  | recover (drive : DriveNo)
  | discard (drive : DriveNo)
  | setup (values : Setup)
  | drop (drive : DriveNo) (slot : SlotNo)
  deriving DecidableEq, Repr

/-- The kinds of the table of R185. -/
def isRequestKind (kind : Byte) : Bool :=
  (decide (1 ≤ kind.toNat) && decide (kind.toNat ≤ 0x10)) || (decide (0x18 ≤ kind.toNat) && decide (kind.toNat ≤ 0x1F))

/-- The length R13 gives for a kind; WRITE's follows from its count. -/
def bodyLength (kind : Byte) (body : List Byte) : Nat :=
  match kind.toNat with
  | 0x01 => 13
  | 0x02 => 2
  | 0x03 => 15
  | 0x04 => 1
  | 0x05 => 13
  | 0x06 => 2
  | 0x07 => 5 + (wordAt body 2).toNat
  | 0x08 => 4
  | 0x09 => 2
  | 0x0A => 1
  | 0x0B => 14
  | 0x0C => 0
  | 0x0D => 0
  | 0x0E => 0
  | 0x0F => 1
  | 0x10 => 2
  | 0x18 => 2
  | 0x19 => 2
  | 0x1A => 1
  | 0x1B => 11
  | 0x1C => 1
  | 0x1D => 1
  | 0x1E => 8
  | 0x1F => 2
  | _ => 0

/-- The operands of a body of the right length for its kind; none where one is out of its range (R13). -/
def parseOperands (kind : Byte) (b : List Byte) : Option Request :=
  match kind.toNat with
  | 0x01 =>
    match qualifierOperand (octetAt b 0), slugOperand (b.drop 1) with
    | some q, some slug => some (.find q slug)
    | _, _ => none
  | 0x02 =>
    match driveOperand (octetAt b 0), slotOperand (octetAt b 1) with
    | some d, some slot => some (.list d slot)
    | _, _ => none
  | 0x03 =>
    match qualifierOperand (octetAt b 0), slugOperand (octetsAt b 1 12), modeOperand (octetAt b 13),
      flagOperand (octetAt b 14) with
    | some q, some slug, some m, some w => some (.openStory q slug m w)
    | _, _, _, _ => none
  | 0x04 => (handleOperand (octetAt b 0)).map .close
  | 0x05 =>
    match driveOperand (octetAt b 0), slugOperand (b.drop 1) with
    | some d, some slug => some (.create d slug)
    | _, _ => none
  | 0x06 => (handleOperand (octetAt b 0)).map fun h => .read h (octetAt b 1).toNat
  | 0x07 =>
    match handleOperand (octetAt b 0), flagOperand (octetAt b 4) with
    | some h, some commit =>
      if 1 ≤ (wordAt b 2).toNat ∧ (wordAt b 2).toNat ≤ 512 then
        some (.write h (octetAt b 1).toNat (wordAt b 2).toNat commit)
      else none
    | _, _ => none
  | 0x08 =>
    match handleOperand (octetAt b 0) with
    | some h => if (wordAt b 2).toNat ≤ 512 then some (.trim h (octetAt b 1).toNat (wordAt b 2).toNat) else none
    | none => none
  | 0x09 =>
    match handleOperand (octetAt b 0), Stage.ofCode (octetAt b 1) with
    | some h, some st => some (.stage h st)
    | _, _ => none
  | 0x0A => (handleOperand (octetAt b 0)).map .purge
  | 0x0B =>
    match handleOperand (octetAt b 0), driveOperand (octetAt b 1), slugOperand (b.drop 2) with
    | some h, some d, some slug => some (.copy h d slug)
    | _, _, _ => none
  | 0x0C => some .halt
  | 0x0D => some .clear
  | 0x0E => some .status
  | 0x0F => (driveOperand (octetAt b 0)).map .volume
  | 0x10 => (maskOperand (wordAt b 0)).map .mask
  | 0x18 =>
    match driveOperand (octetAt b 0), slotOperand (octetAt b 1) with
    | some d, some slot => some (.breakClaim d slot)
    | _, _ => none
  | 0x19 =>
    match driveOperand (octetAt b 0), flagOperand (octetAt b 1) with
    | some d, some f => some (.release d f)
    | _, _ => none
  | 0x1A => (driveOperand (octetAt b 0)).map .mount
  | 0x1B =>
    match driveOperand (octetAt b 0), nameOperand (octetsAt b 1 8) with
    | some d, some name => some (.format d name (wordAt b 9))
    | _, _ => none
  | 0x1C => (driveOperand (octetAt b 0)).map .recover
  | 0x1D => (driveOperand (octetAt b 0)).map .discard
  | 0x1E =>
    some (.setup
      { stepInterval := (octetAt b 0).toNat
        headSettle := (octetAt b 1).toNat
        unload := (octetAt b 2).toNat
        dirtyAge := (octetAt b 3).toNat
        readRetries := (octetAt b 4).toNat
        claimWait := (wordAt b 5).toNat
        deskSilence := (octetAt b 7).toNat })
  | 0x1F =>
    match driveOperand (octetAt b 0), slotOperand (octetAt b 1) with
    | some d, some slot => some (.drop d slot)
    | _, _ => none
  | _ => none

/-- A body is well-formed for its kind: the length field, the length of the kind and every operand hold (R13). -/
def parseRequest (f : Frame) : Option Request :=
  if f.length.toNat = f.body.length ∧ f.body.length = bodyLength f.kind f.body then parseOperands f.kind f.body else none

/-- The request is one reserved to line 0 (R185). -/
def Request.supervisorOnly : Request → Bool
  | .breakClaim .. | .release .. | .mount .. | .format .. | .recover .. | .discard .. | .setup .. | .drop .. => true
  | .find .. | .list .. | .openStory .. | .close .. | .create .. | .read .. | .write .. | .trim .. | .stage .. | .purge ..
  | .copy .. | .halt | .clear | .status | .volume .. | .mask .. => false

/-- Taken on a HELD line: CLEAR and STATUS (R184, check 5). -/
def Request.takenHeld : Request → Bool
  | .clear | .status => true
  | .find .. | .list .. | .openStory .. | .close .. | .create .. | .read .. | .write .. | .trim .. | .stage .. | .purge ..
  | .copy .. | .halt | .volume .. | .mask .. | .breakClaim .. | .release .. | .mount .. | .format .. | .recover ..
  | .discard .. | .setup .. | .drop .. => false

/-- Taken on an UP-BUSY line: HALT and STATUS (R184, check 6). -/
def Request.takenBusy : Request → Bool
  | .halt | .status => true
  | .find .. | .list .. | .openStory .. | .close .. | .create .. | .read .. | .write .. | .trim .. | .stage .. | .purge ..
  | .copy .. | .clear | .volume .. | .mask .. | .breakClaim .. | .release .. | .mount .. | .format .. | .recover ..
  | .discard .. | .setup .. | .drop .. => false

/-! ## Checks in order -/

/-- The outcome of the first check of a list that refuses. -/
def refusal : List (Bool × Outcome) → Option Outcome
  | [] => none
  | (fails, oc) :: rest => if fails then some oc else refusal rest

/-- The handle check of READ and COPY: READ or EDIT (R46). -/
def Handle.refuseRead : Handle → Option Outcome
  | .read .. | .edit .. => none
  | .free | .waiting .. => some .badHandle
  | .lost .. => some .lost

/-- The handle check of WRITE, TRIM, STAGE and PURGE: EDIT (R46). -/
def Handle.refuseEdit : Handle → Option Outcome
  | .edit .. => none
  | .free | .waiting .. | .read .. => some .badHandle
  | .lost .. => some .lost

/-- The entry a READ or EDIT handle names. -/
def Handle.place : Handle → Option (DriveNo × SlotNo)
  | .read d slot => some (d, slot)
  | .edit d slot => some (d, slot)
  | .free | .waiting .. | .lost .. => none

/-- Some drive concerned is FAULTED. -/
def State.faultedAt (s : State) (d : Option DriveNo) : Bool :=
  match d with
  | none => false
  | some d => s.faulted d

/-- A drive has no catalogue (R16). -/
def State.noCatalogue (s : State) (d : DriveNo) : Bool := (s.volume d).isNone

/-- Some drive concerned has no catalogue. -/
def State.noCatalogueAt (s : State) (d : Option DriveNo) : Bool :=
  match d with
  | none => false
  | some d => s.noCatalogue d

/-- The drive is RELEASING. -/
def State.releasing (s : State) (d : DriveNo) : Bool := (s.drive d).status == .releasing

/-- Some drive concerned is RELEASING. -/
def State.releasingAt (s : State) (d : Option DriveNo) : Bool :=
  match d with
  | none => false
  | some d => s.releasing d

/-- The drive's protect flag is set. -/
def State.protectedDrive (s : State) (d : DriveNo) : Bool := (s.drive d).protect

/-- The drive concerned by a qualifier and a slug (R32, R49). -/
def State.concerned (s : State) (qualifier : Option DriveNo) (slug : Slug) : Option DriveNo :=
  match qualifier with
  | some d => some d
  | none => (s.bound slug).map fun p => p.1

/-- A LIVE or FILLING entry of the drive has the slug (R31, R156). -/
def State.duplicate (s : State) (d : DriveNo) (slug : Slug) : Bool :=
  match s.volume d with
  | none => false
  | some v => v.entries.any fun e => e.holdsSlug && e.slug == slug

/-- The lowest FREE slot of the drive's catalogue. -/
def State.freeSlot (s : State) (d : DriveNo) : Option SlotNo :=
  match s.volume d with
  | none => none
  | some v => v.firstSlot fun e => e.use == .free

end Sys2Proof.Machine
end

