-- ==== Sys2Proof/Machine/Story.lean ====
section
/-! DEFINITION. The Story Table's requests: CREATE (R31), FIND (R32), LIST (R33), STAGE (R34), PURGE (R35) and DROP (R36). -/

namespace Sys2Proof.Machine

/-! ## FIND -/

/-- The results of FIND for an entry (R14, R32). -/
def Entry.findResults (e : Entry) (d : DriveNo) (slot : SlotNo) : List Byte :=
  [octet d, octet slot, e.stage.code, octet e.length] ++ octets2 e.tail ++ octets2 e.revision.toNat ++
    [deskOctet e.editHolder, octet e.readerCount, octet e.waiters.length, bindingOctet e.bound]

/-- FIND (R32). -/
def State.requestFind (s : State) (l : LineNo) (tag : Byte) (q : Option DriveNo) (slug : Slug) : State :=
  match refusal [(s.faultedAt (s.concerned q slug), .driveFault), (s.noCatalogueAt (s.concerned q slug), .noVolume)] with
  | some oc => s.reply l tag oc []
  | none =>
    match s.resolve q slug with
    | none => s.reply l tag .noStory []
    | some (d, slot) => s.reply l tag .done ((s.entry d slot).findResults d slot)

/-! ## LIST -/

/-- The use octet of a LIST record (R14); a FREE entry is not reported. -/
def Use.code : Use → Byte
  | .free => 0
  | .live => 1
  | .damaged _ => 2
  | .filling => 3

/-- The stage octet of a LIST record: a DAMAGED entry's is as read from its slot (R33). -/
def Entry.stageOctet (e : Entry) : Byte :=
  match e.use with
  | .damaged b => b
  | .free | .live | .filling => e.stage.code

/-- The binding octet of a LIST record: 255 where the entry is not LIVE (R14). -/
def Entry.listBinding (e : Entry) : Byte := if e.isLive then bindingOctet e.bound else 255

/-- The 19 octets of a LIST record (R14, R33). -/
def Entry.listRecord (e : Entry) (slot : SlotNo) : List Byte :=
  [octet slot, e.use.code, e.stageOctet] ++ padTo 12 e.slug ++ [octet e.length] ++ octets2 e.revision.toNat ++
    [e.listBinding]

/-- The slots LIST walks: those at or after the from-slot whose entries are not FREE, ascending (R33). -/
def Volume.listSlots (v : Volume) (fromSlot : SlotNo) : List SlotNo :=
  allSlots.filter fun slot => decide (fromSlot ≤ slot) && !((v.entry slot).use == .free)

/-- The results of LIST (R14, R33). -/
def Volume.listResults (v : Volume) (fromSlot : SlotNo) : List Byte :=
  let slots := v.listSlots fromSlot
  let shown := slots.take 8
  let next : Nat :=
    if slots.length ≤ 8 then 112
    else
      match shown.getLast? with
      | some slot => slot.val + 1
      | none => 112
  octet shown.length :: shown.flatMap (fun slot => (v.entry slot).listRecord slot) ++ [octet next]

/-- LIST (R33). -/
def State.requestList (s : State) (l : LineNo) (tag : Byte) (d : DriveNo) (fromSlot : SlotNo) : State :=
  if s.faulted d then s.reply l tag .driveFault []
  else
    match s.volume d with
    | none => s.reply l tag .noVolume []
    | some v => s.reply l tag .done (v.listResults fromSlot)

/-! ## CREATE -/

/-- The entry CREATE makes (R31). -/
def createdEntry (l : LineNo) (slug : Slug) : Entry :=
  { Entry.free with use := .live, slug := slug, editHolder := some l }

/-- CREATE (R31). -/
def State.requestCreate (s : State) (l : LineNo) (tag : Byte) (d : DriveNo) (slug : Slug) : State :=
  match refusal
      [(s.faulted d, .driveFault), (s.noCatalogue d, .noVolume), (s.releasing d, .closing),
        (s.protectedDrive d, .writeProtected), ((s.freeHandle l).isNone, .noHandle), (s.duplicate d slug, .duplicate)] with
  | some oc => s.reply l tag oc []
  | none =>
    match s.freeHandle l, s.freeSlot d with
    | some h, some slot =>
      let t := (((s.onEntry d slot fun _ => createdEntry l slug).bindNew d slot).setHandle l h (.edit d slot)).setStale d
      t.reply l tag .done [handleOctet h, octet slot, bindingOctet (t.entry d slot).bound]
    | _, _ => s.reply l tag .catalogueFull []

/-! ## STAGE -/

/-- The pairs of R20: `some true` is one taken from line 0 alone. -/
def stageMove : Stage → Stage → Option Bool
  | .copy, .edit => some false
  | .edit, .copy => some false
  | .edit, .ready => some false
  | .ready, .edit => some false
  | .ready, .set => some false
  | .set, .edit => some true
  | .copy, .spiked => some false
  | .edit, .spiked => some false
  | .ready, .spiked => some false
  | .set, .spiked => some true
  | .spiked, .copy => some false
  | .copy, .copy | .copy, .ready | .copy, .set | .edit, .edit | .edit, .set | .ready, .copy | .ready, .ready | .set, .copy
  | .set, .ready | .set, .set | .spiked, .edit | .spiked, .ready | .spiked, .set | .spiked, .spiked => none

/-- STAGE on the entry a handle names. -/
def State.stageEntry (s : State) (l : LineNo) (tag : Byte) (d : DriveNo) (slot : SlotNo) (stage : Stage) : State :=
  match refusal
      [(s.faulted d, .driveFault), ((stageMove (s.entry d slot).stage stage).isNone, .wrongStage),
        (stageMove (s.entry d slot).stage stage == some true && l != 0, .notPermitted)] with
  | some oc => s.reply l tag oc []
  | none => ((s.onEntry d slot fun e => { e with stage := stage, changed := true }).setStale d).reply l tag .done []

/-- STAGE (R34). -/
def State.requestStage (s : State) (l : LineNo) (tag : Byte) (h : HandleNo) (stage : Stage) : State :=
  match (s.handle l h).refuseEdit, (s.handle l h).place with
  | none, some (d, slot) => s.stageEntry l tag d slot stage
  | some oc, _ => s.reply l tag oc []
  | none, none => s.reply l tag .badHandle []

/-! ## PURGE and DROP -/

/-- Another desk than `l` reads the entry or waits for it (R35). -/
def Entry.usedByOther (e : Entry) (l : LineNo) : Bool :=
  allLines.any fun m => m != l && (e.readers.get m || e.waiters.any fun w => w.desk == m)

/-- Steps 1 to 3 of R35 for a LIVE entry, and all that DROP does to a DAMAGED one: the entry becomes FREE and the stale mark is
set. -/
def State.retireEntry (s : State) (d : DriveNo) (slot : SlotNo) : State := (s.freeEntry d slot).setStale d

/-- PURGE of the entry a handle names. -/
def State.purgeEntry (s : State) (l : LineNo) (tag : Byte) (h : HandleNo) (d : DriveNo) (slot : SlotNo) : State :=
  match refusal
      [(s.faulted d, .driveFault), ((s.entry d slot).stage != .spiked, .wrongStage),
        ((s.entry d slot).usedByOther l, .inUse), (decide (0 < (s.entry d slot).copyReaders), .copyActive)] with
  | some oc => s.reply l tag oc []
  | none => ((s.retireEntry d slot).setHandle l h .free).reply l tag .done []

/-- PURGE (R35, R69). It is answered before the GONE of a release that it lets complete (the model's choice, log entry 22). -/
def State.requestPurge (s : State) (l : LineNo) (tag : Byte) (h : HandleNo) : State :=
  match (s.handle l h).refuseEdit, (s.handle l h).place with
  | none, some (d, slot) => s.purgeEntry l tag h d slot
  | some oc, _ => s.reply l tag oc []
  | none, none => s.reply l tag .badHandle []

/-- The entry has an edit holder, a reader or a waiter (R36). -/
def Entry.claimed (e : Entry) : Bool := e.editHolder.isSome || decide (0 < e.readerCount) || !e.waiters.isEmpty

/-- DROP (R36). -/
def State.requestDrop (s : State) (l : LineNo) (tag : Byte) (d : DriveNo) (slot : SlotNo) : State :=
  match refusal
      [(s.faulted d, .driveFault), (s.noCatalogue d, .noVolume), (s.protectedDrive d, .writeProtected),
        ((s.entry d slot).use == .free, .noStory), ((s.entry d slot).use == .filling, .inUse),
        ((s.entry d slot).isLive && (s.entry d slot).claimed, .inUse),
        ((s.entry d slot).isLive && decide (0 < (s.entry d slot).copyReaders), .inUse)] with
  | some oc => s.reply l tag oc []
  | none => (s.retireEntry d slot).reply l tag .done []

end Sys2Proof.Machine
end

