-- ==== Sys2Proof/Machine/ClaimRequests.lean ====
section
/-! DEFINITION. The claim unit's requests: OPEN (R49 to R52), CLOSE (R57 to R59) and BREAK (R61 to R63). -/

namespace Sys2Proof.Machine

/-! ## OPEN -/

/-- The desk holds a READ, EDIT or WAITING handle on the entry (R49, check 4). -/
def State.alreadyOpen (s : State) (l : LineNo) (d : DriveNo) (slot : SlotNo) : Bool :=
  allHandles.any fun h => (s.handle l h).claims d slot

/-- The results of OPEN (R14). -/
def openResults (h : HandleNo) (d : DriveNo) (slot : SlotNo) : List Byte := [handleOctet h, octet d, octet slot]

/-- OPEN with every check passed (R50 to R52). -/
def State.takeOpen (s : State) (l : LineNo) (tag : Byte) (h : HandleNo) (d : DriveNo) (slot : SlotNo) (mode : Mode) :
    State :=
  match mode with
  | .read =>
    ((s.onEntry d slot fun e => e.setReader l true).setHandle l h (.read d slot)).reply l tag .done (openResults h d slot)
  | .edit =>
    match (s.entry d slot).editHolder with
    | none =>
      ((s.onEntry d slot fun e => { e with editHolder := some l }).setHandle l h (.edit d slot)).reply l tag .done
        (openResults h d slot)
    | some _ =>
      ((s.onEntry d slot fun e => { e with waiters := e.waiters ++ [⟨l, s.setup.claimWait⟩] }).setHandle l h
        (.waiting d slot)).reply l tag .queued (openResults h d slot)

/-- OPEN of the LIVE entry its slug resolves to: checks 4 to 7 of R49. -/
def State.openEntry (s : State) (l : LineNo) (tag : Byte) (d : DriveNo) (slot : SlotNo) (mode : Mode) (wait : Bool) : State :=
  match refusal
      [(s.alreadyOpen l d slot, .alreadyOpen), ((s.freeHandle l).isNone, .noHandle),
        (mode == .edit && s.protectedDrive d, .writeProtected),
        (mode == .edit && (s.entry d slot).editHolder.isSome && !wait, .claimed)], s.freeHandle l with
  | none, some h => s.takeOpen l tag h d slot mode
  | some oc, _ => s.reply l tag oc []
  | none, none => s.reply l tag .noHandle []

/-- OPEN: checks 1 to 3 of R49. -/
def State.requestOpen (s : State) (l : LineNo) (tag : Byte) (q : Option DriveNo) (slug : Slug) (mode : Mode) (wait : Bool) :
    State :=
  match refusal
      [(s.faultedAt (s.concerned q slug), .driveFault), (s.noCatalogueAt (s.concerned q slug), .noVolume),
        (s.releasingAt (s.concerned q slug), .closing)] with
  | some oc => s.reply l tag oc []
  | none =>
    match s.resolve q slug with
    | none => s.reply l tag .noStory []
    | some (d, slot) => s.openEntry l tag d slot mode wait

/-! ## CLOSE -/

/-- CLOSE of an EDIT handle: a change commits and the desk waits (R59), no change only releases the claim (R58). -/
def State.closeEdit (s : State) (l : LineNo) (tag : Byte) (h : HandleNo) (d : DriveNo) (slot : SlotNo) : State :=
  if (s.entry d slot).changed then
    ((((s.commit l d slot).setHandle l h .free).beginRequest l .close tag).registerWait d (.desk l))
  else ((s.releaseClaim d slot).setHandle l h .free).reply l tag .done []

/-- CLOSE (R57 to R59). It is answered before the GONE of a release that it lets complete (the model's choice, log entry 22). -/
def State.requestClose (s : State) (l : LineNo) (tag : Byte) (h : HandleNo) : State :=
  match s.handle l h with
  | .free => s.reply l tag .badHandle []
  | .read d slot => ((s.onEntry d slot fun e => e.setReader l false).setHandle l h .free).reply l tag .done []
  | .waiting d slot => ((s.removeWaiter d slot l).setHandle l h .free).reply l tag .done []
  | .lost .. => (s.setHandle l h .free).reply l tag .done []
  | .edit d slot => s.closeEdit l tag h d slot

/-! ## BREAK -/

/-- The item is a SECTOR-READ or SECTOR-WRITE of the desk through the handle, not yet begun (R63). -/
def WorkItem.waitsThrough (i : WorkItem) (l : LineNo) (h : HandleNo) : Bool :=
  match i.work with
  | .sectorRead m k .. => m == l && k == h && !i.begun
  | .sectorWrite m k .. => m == l && k == h && !i.begun
  | .copyRead .. | .copyWrite .. | .catalogueWrite | .release | .format .. => false

/-- The broken holder's COPY, if it has one through the broken handle, ends (R63, R165). -/
def State.breakCopy (s : State) (l : LineNo) (h : HandleNo) : State :=
  match s.contextOf l with
  | none => s
  | some c =>
    if (s.context c).inProgress && (s.context c).handle == h then s.endCopy none c .broken [] else s

/-- The broken holder's outstanding request is dealt with (R63). -/
def State.breakRequest (s : State) (d : DriveNo) (l : LineNo) (h : HandleNo) : State :=
  if (s.drive d).queue.any fun i => i.waitsThrough l h then
    ((s.onDrive d fun x => x.removeItems fun i => i.waitsThrough l h).emptyTakenSlot l).endRequest l .broken []
  else s.breakCopy l h

/-- The claim of a desk on an entry is broken: steps 1 to 3 of R62. BROKEN is offered, and BREAK answered, before the GONE of a release
that this lets complete (the model's choices, log entries 22 and 23). -/
def State.breakHolder (s : State) (d : DriveNo) (slot : SlotNo) (l : LineNo) : State :=
  match s.handleThat l (.edit d slot) with
  | none => s.releaseClaim d slot
  | some h =>
    ((((s.setHandle l h (.lost d slot .edit)).notify l (.broken h d slot)).breakRequest d l h).releaseClaim d slot)

/-- BREAK (R61, R62). -/
def State.requestBreak (s : State) (l : LineNo) (tag : Byte) (d : DriveNo) (slot : SlotNo) : State :=
  match refusal
      [(s.faulted d, .driveFault), (s.noCatalogue d, .noVolume), (!(s.entry d slot).isLive, .noStory)] with
  | some oc => s.reply l tag oc []
  | none =>
    match (s.entry d slot).editHolder with
    | none => s.reply l tag .idle []
    | some m => (s.breakHolder d slot m).reply l tag .done []

end Sys2Proof.Machine
end

