-- ==== Sys2Proof/Machine/SpaceRequests.lean ====
section
/-! DEFINITION. The space unit's requests: READ (R86), WRITE (R87 to R89) and TRIM (R92, R93). -/

namespace Sys2Proof.Machine

/-- The stage locks the text: READY, SET or SPIKED (R20). -/
def Stage.locked : Stage → Bool
  | .copy | .edit => false
  | .ready | .set | .spiked => true

/-! ## READ -/

/-- READ of the entry a handle names: checks 2 and 3 of R86, then the SECTOR-READ item (R82). -/
def State.readEntry (s : State) (l : LineNo) (tag : Byte) (h : HandleNo) (d : DriveNo) (slot : SlotNo) (i : Nat) : State :=
  if s.faulted d then s.reply l tag .driveFault []
  else
    match (s.entry d slot).lsn i with
    | none => s.reply l tag .badIndex []
    | some lsn => (s.post d (.sectorRead l h slot i lsn)).beginRequest l .read tag

/-- READ (R86). -/
def State.requestRead (s : State) (l : LineNo) (tag : Byte) (h : HandleNo) (i : Nat) : State :=
  match (s.handle l h).refuseRead, (s.handle l h).place with
  | none, some (d, slot) => s.readEntry l tag h d slot i
  | some oc, _ => s.reply l tag oc []
  | none, none => s.reply l tag .badHandle []

/-! ## WRITE -/

/-- Steps 3 and 4 of R88: the SECTOR-WRITE item, then the marker and the stale mark; the WRITE becomes outstanding. -/
def State.postWrite (s : State) (l : LineNo) (tag : Byte) (h : HandleNo) (d : DriveNo) (slot : SlotNo) (i count : Nat)
    (commit : Bool) : State :=
  let lsn := ((s.entry d slot).lsn i).getD 0
  (((s.post d (.sectorWrite l h slot i lsn count commit none)).onEntry d slot fun e => { e with changed := true }).setStale
    d).beginRequest l .write tag

/-- A WRITE at an index below the length (R88). -/
def State.overwrite (s : State) (l : LineNo) (tag : Byte) (h : HandleNo) (d : DriveNo) (slot : SlotNo) (i count : Nat)
    (commit : Bool) : State :=
  (s.onEntry d slot fun e => if i + 1 = e.length then { e with tail := count } else e).postWrite l tag h d slot i count
    commit

/-- A WRITE at the index equal to the length (R89). -/
def State.append (s : State) (l : LineNo) (tag : Byte) (h : HandleNo) (d : DriveNo) (slot : SlotNo) (i count : Nat)
    (commit : Bool) : State :=
  match refusal
      [(decide (0 < i) && decide ((s.entry d slot).tail < 512), .partialTail), (decide (Config.maxStory ≤ i), .storyFull)],
    s.volume d with
  | some oc, _ => s.reply l tag oc []
  | none, none => s.reply l tag .noVolume []
  | none, some v =>
    match v.allocateAppend slot with
    | .error oc => s.reply l tag oc []
    | .ok w =>
      ((s.setVolume d (some w)).onEntry d slot fun e => { e with tail := count }).postWrite l tag h d slot i count commit

/-- WRITE of the entry a handle names: checks 2 to 5 of R87, then an overwrite or an append. -/
def State.writeEntry (s : State) (l : LineNo) (tag : Byte) (h : HandleNo) (d : DriveNo) (slot : SlotNo) (i count : Nat)
    (commit : Bool) : State :=
  let n := (s.entry d slot).length
  match refusal
      [(s.faulted d, .driveFault), (s.protectedDrive d, .writeProtected), ((s.entry d slot).stage.locked, .stageLocked),
        (decide (n < i), .badIndex), (count != 512 && i + 1 != n && i != n, .malformed)] with
  | some oc => s.reply l tag oc []
  | none => if i < n then s.overwrite l tag h d slot i count commit else s.append l tag h d slot i count commit

/-- WRITE (R87). -/
def State.requestWrite (s : State) (l : LineNo) (tag : Byte) (h : HandleNo) (i count : Nat) (commit : Bool) : State :=
  match (s.handle l h).refuseEdit, (s.handle l h).place with
  | none, some (d, slot) => s.writeEntry l tag h d slot i count commit
  | some oc, _ => s.reply l tag oc []
  | none, none => s.reply l tag .badHandle []

/-! ## TRIM -/

/-- TRIM of the entry a handle names (R92, R93). -/
def State.trimStory (s : State) (l : LineNo) (tag : Byte) (d : DriveNo) (slot : SlotNo) (m tail : Nat) : State :=
  match refusal
      [(s.faulted d, .driveFault), (s.protectedDrive d, .writeProtected), ((s.entry d slot).stage.locked, .stageLocked),
        (decide (0 < (s.entry d slot).copyReaders), .copyActive), (decide ((s.entry d slot).length ≤ m), .badIndex),
        ((m == 0) != (tail == 0), .malformed)] with
  | some oc => s.reply l tag oc []
  | none => ((s.onVolume d fun v => v.trimEntry slot m tail).setStale d).reply l tag .done []

/-- TRIM (R92). -/
def State.requestTrim (s : State) (l : LineNo) (tag : Byte) (h : HandleNo) (m tail : Nat) : State :=
  match (s.handle l h).refuseEdit, (s.handle l h).place with
  | none, some (d, slot) => s.trimStory l tag d slot m tail
  | some oc, _ => s.reply l tag oc []
  | none, none => s.reply l tag .badHandle []

end Sys2Proof.Machine
end

