-- ==== Sys2Proof/Machine/CopyRequests.lean ====
section
/-! DEFINITION. The copy engine's request: COPY (R156, R157). -/

namespace Sys2Proof.Machine

/-- The FILLING entry of a copy's destination (R157 step 3). -/
def fillingEntry (source : Entry) (slug : Slug) (extents : List Extent) : Entry :=
  { Entry.free with use := .filling, slug := slug, stage := source.stage, tail := source.tail, extents := extents }

/-- The context of a taken COPY (R157 step 1); the staging sector is as the context's last ending left it. -/
def CopyContext.taken (x : CopyContext) (l : LineNo) (h : HandleNo) (d : DriveNo) (slot : SlotNo) (destDrive : DriveNo)
    (destSlot : SlotNo) (length : Nat) : CopyContext :=
  { x with
    phase := .readStep
    desk := l
    handle := h
    sourceDrive := d
    sourceSlot := slot
    destDrive := destDrive
    destSlot := destSlot
    length := length
    next := 0
    halt := false
    wanted := true }

/-- A COPY is taken: steps 1 to 4 of R157, and the first COPY-READ item, or completion at once for a length of 0. -/
def State.takeCopy (s : State) (l : LineNo) (tag : Byte) (h : HandleNo) (d : DriveNo) (slot : SlotNo) (destDrive : DriveNo)
    (destSlot : SlotNo) (slug : Slug) (c : ContextNo) (extents : List Extent) (v : Volume) : State :=
  let source := s.entry d slot
  let t := (((s.onContext c fun x => x.taken l h d slot destDrive destSlot source.length).setVolume destDrive
    (some (v.setEntry destSlot (fillingEntry source slug extents)))).onEntry d slot
      fun e => { e with copyReaders := e.copyReaders + 1 }).beginRequest l .copy tag
  if source.length = 0 then t.completeCopy c else t.postCopyRead c

/-- COPY with checks 1 to 5 passed: check 6, and the take. -/
def State.allocateDestination (s : State) (l : LineNo) (tag : Byte) (h : HandleNo) (d : DriveNo) (slot : SlotNo)
    (destDrive : DriveNo) (destSlot : SlotNo) (slug : Slug) (c : ContextNo) : State :=
  match s.volume destDrive with
  | none => s.reply l tag .noVolume []
  | some v =>
    match v.allocateCopy (s.entry d slot).length with
    | .error oc => s.reply l tag oc []
    | .ok (extents, w) => s.takeCopy l tag h d slot destDrive destSlot slug c extents w

/-- COPY of the entry a handle names: checks 1 (FAULTED) to 5 of R156. -/
def State.copyEntry (s : State) (l : LineNo) (tag : Byte) (h : HandleNo) (d : DriveNo) (slot : SlotNo) (destDrive : DriveNo)
    (slug : Slug) : State :=
  match refusal
      [(s.faulted d, .driveFault), (s.freeContext.isNone, .engineBusy), (s.faulted destDrive, .driveFault),
        (s.noCatalogue destDrive, .noVolume), (s.releasing destDrive, .closing),
        (s.protectedDrive destDrive, .writeProtected), (s.duplicate destDrive slug, .duplicate),
        ((s.freeSlot destDrive).isNone, .catalogueFull)], s.freeContext, s.freeSlot destDrive with
  | none, some c, some destSlot => s.allocateDestination l tag h d slot destDrive destSlot slug c
  | some oc, _, _ => s.reply l tag oc []
  | none, none, _ => s.reply l tag .engineBusy []
  | none, some _, none => s.reply l tag .catalogueFull []

/-- COPY (R156). -/
def State.requestCopy (s : State) (l : LineNo) (tag : Byte) (h : HandleNo) (destDrive : DriveNo) (slug : Slug) : State :=
  match (s.handle l h).refuseRead, (s.handle l h).place with
  | none, some (d, slot) => s.copyEntry l tag h d slot destDrive slug
  | some oc, _ => s.reply l tag oc []
  | none, none => s.reply l tag .badHandle []

end Sys2Proof.Machine
end

