-- ==== Sys2Proof/Machine/DriveRequests.lean ====
section
/-! DEFINITION. The drive units' requests: RELEASE (R114), MOUNT (R105), FORMAT (R124, R125), RECOVER (R121) and DISCARD
(R123). -/

namespace Sys2Proof.Machine

/-- RELEASE, by volume status and force flag (R114). It is answered before the GONE of a release that completes at once (the model's
choice, log entry 22). -/
def State.requestRelease (s : State) (l : LineNo) (tag : Byte) (d : DriveNo) (force : Bool) : State :=
  match (s.drive d).status with
  | .mounted => (if force then s.forceRelease d else s.beginRelease d).reply l tag .done []
  | .releasing => if force then (s.forceRelease d).reply l tag .done [] else s.reply l tag .idle []
  | .faulted => s.reply l tag .driveFault []
  | .none => s.reply l tag .noVolume []
  | .spinUp | .mounting | .formatting => s.reply l tag .inUse []
  | .foreign | .unlocked => s.reply l tag .idle []

/-- MOUNT, by volume status (R105). -/
def State.requestMount (s : State) (l : LineNo) (tag : Byte) (d : DriveNo) : State :=
  match (s.drive d).status with
  | .unlocked | .foreign => (s.onDrive d Drive.enterSpinUp).reply l tag .done []
  | .none => s.reply l tag .noVolume []
  | .faulted => s.reply l tag .driveFault []
  | .spinUp | .mounting | .mounted | .releasing | .formatting => s.reply l tag .inUse []

/-- A MOUNTED volume is in use: a handle, a copy, an item or a head at work (R124, check 2). -/
def State.mountedInUse (s : State) (d : DriveNo) : Bool :=
  s.anyClaimHandle d || (allContexts.any fun c => (s.context c).uses d) || !(s.drive d).queue.isEmpty ||
    !(s.drive d).head.atRest

/-- FORMAT passes checks 1 and 2: check 3, and the take (R124, R125). -/
def State.takeFormat (s : State) (l : LineNo) (tag : Byte) (d : DriveNo) (name : List Byte) (serial : Word16) : State :=
  if s.protectedDrive d then s.reply l tag .writeProtected []
  else (s.beginRequest l .format tag).beginFormat d name serial

/-- FORMAT (R124). -/
def State.requestFormat (s : State) (l : LineNo) (tag : Byte) (d : DriveNo) (name : List Byte) (serial : Word16) : State :=
  match (s.drive d).status with
  | .none => s.reply l tag .noVolume []
  | .faulted => s.reply l tag .driveFault []
  | .spinUp | .mounting | .releasing | .formatting => s.reply l tag .inUse []
  | .mounted => if s.mountedInUse d then s.reply l tag .inUse [] else s.takeFormat l tag d name serial
  | .foreign | .unlocked => s.takeFormat l tag d name serial

/-- A RECOVER begins its spin check (R121 step 1). -/
def Drive.beginRecover (x : Drive) : Drive :=
  { x with measurement := Measurement.cleared, spinUpTimer := true, head := .unloaded, recover := some .spinCheck }

/-- RECOVER (R121); with a RECOVER already running it cannot be sent, since line 0 is busy or has leftover work, and is answered IDLE
(log entry 21). -/
def State.requestRecover (s : State) (l : LineNo) (tag : Byte) (d : DriveNo) : State :=
  match (s.drive d).status with
  | .none => s.reply l tag .noVolume []
  | .faulted =>
    if (s.drive d).recover.isSome then s.reply l tag .idle []
    else (s.onDrive d Drive.beginRecover).beginRequest l .recover tag
  | .spinUp | .mounting | .mounted | .releasing | .formatting | .foreign | .unlocked => s.reply l tag .idle []

/-- DISCARD of a faulted volume (R123 steps 1 to 4), or of a faulted diskette that is none. The LOST notices of step 2 are offered
before the GONE of step 4, where R190 leaves two blocks' notices in either order (the model's choice, log entry 23). -/
def State.discardDrive (s : State) (d : DriveNo) : State :=
  match (s.drive d).faultOrigin with
  | .mountedVolume =>
    let t := (s.onDrive d fun x => { x with buffer := .empty }).leaveVolume d
    (t.onDrive d fun x => { x.withStatus .unlocked with fault := none }).broadcast (.gone d (s.drive d).buffer.dirtyCount)
  | .noVolume => s.onDrive d fun x => { x.withStatus .unlocked with fault := none }

/-- DISCARD (R123); while a RECOVER runs it cannot be sent, as for RECOVER, and is answered IDLE (log entry 21). -/
def State.requestDiscard (s : State) (l : LineNo) (tag : Byte) (d : DriveNo) : State :=
  match (s.drive d).status with
  | .none => s.reply l tag .noVolume []
  | .faulted =>
    if (s.drive d).recover.isSome then s.reply l tag .idle [] else (s.discardDrive d).reply l tag .done []
  | .spinUp | .mounting | .mounted | .releasing | .formatting | .foreign | .unlocked => s.reply l tag .idle []

end Sys2Proof.Machine
end

