-- ==== Sys2Proof/Machine/DispatcherRequests.lean ====
section
/-! DEFINITION. The dispatcher's own requests, HALT (R186), CLEAR (R187), STATUS (R194), VOLUME (R195), MASK (R193) and SETUP
(R197), and the dispatch of a frame (R183 to R185). -/

namespace Sys2Proof.Machine

/-! ## HALT -/

/-- The item is the desk's SECTOR-READ, waiting. -/
def WorkItem.waitingRead (i : WorkItem) (l : LineNo) : Bool :=
  match i.work with
  | .sectorRead m .. => m == l && !i.begun
  | .sectorWrite .. | .copyRead .. | .copyWrite .. | .catalogueWrite | .release | .format .. => false

/-- A HALT of a READ: its waiting item is removed and the READ answered HALTED; a begun one is not touched (R84, R186). -/
def State.haltRead (s : State) (l : LineNo) : State :=
  if allDrives.any fun d => (s.drive d).queue.any fun i => i.waitingRead l then
    (allDrives.foldl (fun t d => t.onDrive d fun x => x.removeItems fun i => i.waitingRead l) s).endRequest l .halted []
  else s

/-- A HALT of a COPY sets the halt flag of a copy in progress (R164). -/
def State.haltCopy (s : State) (l : LineNo) : State :=
  match s.contextOf l with
  | none => s
  | some c => if (s.context c).inProgress then s.onContext c fun x => { x with halt := true } else s

/-- Set the halt flag of the FORMAT item at the head of a queue. -/
def Drive.setFormatHalt (x : Drive) : Drive :=
  match x.queue with
  | ⟨.format name serial position _, begun⟩ :: rest => { x with queue := ⟨.format name serial position true, begun⟩ :: rest }
  | _ => x

/-- The channel has been granted for position 154 (R128). -/
def Drive.lastLay (x : Drive) : Bool :=
  match x.formatItem with
  | some (position, _) => decide (Config.lastPosition ≤ position) && x.head == .run .lay
  | none => false

/-- A HALT of the FORMAT on a drive sets its item's flag; in WAIT-CHANNEL(LAY) the drive acts on it at once (R128). -/
def State.haltFormatItem (s : State) (d : DriveNo) : State :=
  if (s.drive d).lastLay then s
  else
    let t := s.onDrive d Drive.setFormatHalt
    if (s.drive d).head == .wait .lay then t.haltFormat d else t

/-- A HALT of line 0's FORMAT: on the drive in FORMATTING, if it has not gone on to its mount (R128). -/
def State.haltFormatting (s : State) : State :=
  match allDrives.find? fun d => (s.drive d).status == .formatting with
  | none => s
  | some d => s.haltFormatItem d

/-- A HALT on a busy line, by the kind of its outstanding request (R186). -/
def State.haltRequest (s : State) (l : LineNo) : OutstandingKind → State
  | .read => s.haltRead l
  | .copy => s.haltCopy l
  | .format => s.haltFormatting
  | .write | .close | .recover => s

/-- HALT (R186). -/
def State.requestHalt (s : State) (l : LineNo) (tag : Byte) : State :=
  match (s.desk l).outstanding with
  | none => s.reply l tag .idle []
  | some o => (s.emptySlot l).haltRequest l o.kind

/-! ## CLEAR, STATUS, VOLUME, MASK -/

/-- CLEAR (R187). -/
def State.requestClear (s : State) (l : LineNo) (tag : Byte) : State :=
  if (s.line l).state = .held then (s.onLine l fun x => { x with state := .upIdle }).reply l tag .done []
  else s.reply l tag .idle []

/-- The fault cause octet of a STATUS answer: 0 when there is none (R14). -/
def Drive.faultOctet (x : Drive) : Byte :=
  match x.fault with
  | none => 0
  | some f => f.cause.code

/-- The five octets of a drive in a STATUS answer (R14, R194). -/
def Drive.statusOctets (x : Drive) : List Byte :=
  [x.status.code, x.head.code, octet x.queue.length, flagOctet x.protect, x.faultOctet]

/-- The holder octet: a drive, or 255 when free (R14). -/
def Channel.holderOctet (c : Channel) : Byte :=
  match c.holder with
  | none => 255
  | some (d, _) => octet d

/-- The octet of the copy contexts in use (R14). -/
def State.contextsOctet (s : State) : Byte :=
  octet ((if (s.context 0).phase == .free then 0 else 1) + (if (s.context 1).phase == .free then 0 else 2))

/-- The results of STATUS (R14, R194). -/
def State.statusResults (s : State) : List Byte :=
  (allDrives.flatMap fun d => (s.drive d).statusOctets) ++ [s.channel.holderOctet, s.contextsOctet]

/-- STATUS: answered with the flags as they stand, which are cleared after it (R194). -/
def State.requestStatus (s : State) (l : LineNo) (tag : Byte) : State :=
  (s.reply l tag .done s.statusResults).onLine l fun x => { x with flags := LineFlags.clear }

/-- How many entries have a use that passes a test. -/
def Volume.countUses (v : Volume) (p : Entry → Bool) : Nat := v.entries.countP p

/-- The entry is DAMAGED. -/
def Entry.isDamaged (e : Entry) : Bool :=
  match e.use with
  | .damaged _ => true
  | .free | .live | .filling => false

/-- The results of VOLUME (R14, R195). -/
def Volume.volumeResults (v : Volume) : List Byte :=
  padTo 8 v.name ++ octets2 v.serial.toNat ++ octets4 v.generation.toNat ++ octets2 v.freeCount ++
    [octet (v.countUses Entry.isLive), octet (v.countUses Entry.isDamaged),
      octet (v.countUses fun e => e.use == .filling), flagOctet v.stale]

/-- VOLUME (R195). -/
def State.requestVolume (s : State) (l : LineNo) (tag : Byte) (d : DriveNo) : State :=
  if s.faulted d then s.reply l tag .driveFault []
  else
    match s.volume d with
    | none => s.reply l tag .noVolume []
    | some v => s.reply l tag .done v.volumeResults

/-- MASK (R193). -/
def State.requestMask (s : State) (l : LineNo) (tag : Byte) (mask : BitVec 9) : State :=
  (s.onLine l fun x => { x with mask := mask }).reply l tag .done []

/-! ## SETUP -/

/-- A value clamped to a range (R197). -/
def clamp (low high n : Nat) : Nat := max low (min high n)

/-- The table with each value clamped to its range (R196, R197). -/
def Setup.clamped (t : Setup) : Setup where
  stepInterval := clamp 2 20 t.stepInterval
  headSettle := clamp 10 60 t.headSettle
  unload := clamp 2 100 t.unload
  dirtyAge := clamp 8 240 t.dirtyAge
  readRetries := clamp 0 6 t.readRetries
  claimWait := clamp 5 300 t.claimWait
  deskSilence := clamp 2 60 t.deskSilence

/-- The eight octets of a setup table (R13, R14). -/
def Setup.octets (t : Setup) : List Byte :=
  [octet t.stepInterval, octet t.headSettle, octet t.unload, octet t.dirtyAge, octet t.readRetries] ++
    octets2 t.claimWait ++ [octet t.deskSilence]

/-- A drive whose work SETUP must not disturb (R197). -/
def Drive.active (x : Drive) : Bool :=
  !x.head.atRest || x.status == .spinUp || x.status == .mounting || x.status == .formatting || !x.queue.isEmpty

/-- SETUP (R197). -/
def State.requestSetup (s : State) (l : LineNo) (tag : Byte) (values : Setup) : State :=
  if allDrives.any fun d => (s.drive d).active then s.reply l tag .drivesActive []
  else ({ s with setup := values.clamped } : State).reply l tag .done values.clamped.octets

/-! ## Dispatch -/

/-- A request goes to its owner (R185). -/
def State.toOwner (s : State) (l : LineNo) (tag : Byte) : Request → State
  | .find q slug => s.requestFind l tag q slug
  | .list d slot => s.requestList l tag d slot
  | .openStory q slug mode wait => s.requestOpen l tag q slug mode wait
  | .close h => s.requestClose l tag h
  | .create d slug => s.requestCreate l tag d slug
  | .read h i => s.requestRead l tag h i
  | .write h i count commit => s.requestWrite l tag h i count commit
  | .trim h m tail => s.requestTrim l tag h m tail
  | .stage h stage => s.requestStage l tag h stage
  | .purge h => s.requestPurge l tag h
  | .copy h d slug => s.requestCopy l tag h d slug
  | .halt => s.requestHalt l tag
  | .clear => s.requestClear l tag
  | .status => s.requestStatus l tag
  | .volume d => s.requestVolume l tag d
  | .mask m => s.requestMask l tag m
  | .breakClaim d slot => s.requestBreak l tag d slot
  | .release d force => s.requestRelease l tag d force
  | .mount d => s.requestMount l tag d
  | .format d name serial => s.requestFormat l tag d name serial
  | .recover d => s.requestRecover l tag d
  | .discard d => s.requestDiscard l tag d
  | .setup values => s.requestSetup l tag values
  | .drop d slot => s.requestDrop l tag d slot

/-- Checks 4 to 6 of R184 on a well-formed request, then its owner. -/
def State.dispatchRequest (s : State) (l : LineNo) (tag : Byte) (r : Request) : State :=
  match refusal
      [(r.supervisorOnly && l != 0, .notPermitted), ((s.line l).state == .held && !r.takenHeld, .held),
        ((s.line l).state == .upBusy && !r.takenBusy, .busy)] with
  | some oc => s.reply l tag oc []
  | none => s.toOwner l tag r

/-- The dispatcher takes a frame: the common checks of R184 in order. -/
def State.dispatch (s : State) (l : LineNo) (f : Frame) : State :=
  if isRequestKind f.kind then
    match parseRequest f with
    | none => s.reply l f.tag .malformed []
    | some r => s.dispatchRequest l f.tag r
  else s.reply l f.tag .unknown []

/-- The three things that let the dispatcher take a line's frame hold together (R183). -/
def State.frameReady (s : State) (l : LineNo) : Bool :=
  (match (s.line l).receiveSlot with
    | some r => !r.taken
    | none => false) && (s.line l).answerSlot.isNone && (s.desk l).leftover.isNone

/-- The dispatcher takes the frame in a line's receive slot. -/
def State.takeFrame (s : State) (l : LineNo) : State :=
  match (s.line l).receiveSlot with
  | some r => s.dispatch l r.frame
  | none => s

end Sys2Proof.Machine
end

