-- ==== Sys2Proof/Machine/Settle.lean ====
section
/-! DEFINITION. The work that takes no time: after the effect of a command, at the same event, the drives take up what they
can (R108, R111, R112) and the dispatcher takes the frames it can (R183), one piece after another until none is left; then
each transmitter makes its choice (R174). -/

namespace Sys2Proof.Machine

/-- What has a piece of work that takes no time: a drive unit, or the dispatcher on a line. -/
inductive Agent where
  | drive (d : DriveNo)
  | line (l : LineNo)
  deriving DecidableEq, Repr

/-- The agents with such work: drives in ascending order, then lines. -/
def State.enabledAgents (s : State) : List Agent :=
  ((allDrives.filter fun d => s.driveReady d).map .drive) ++ ((allLines.filter fun l => s.frameReady l).map .line)

/-- An agent does its piece of work. -/
def State.agentStep (s : State) : Agent → State
  | .drive d => s.driveStep d
  | .line l => s.takeFrame l

/-- One of several agents, by the order choice; a single one needs no choice (log entry 2). -/
def State.chooseAgent (s : State) (first : Agent) (rest : List Agent) : Agent × State :=
  match rest with
  | [] => (first, s)
  | _ :: _ => ((first :: rest).getD (s.popChoice.1 % (rest.length + 1)) first, s.popChoice.2)

/-- Do pieces of work until none is left, or the bound on their number is reached (log entry 3). -/
def settle : Nat → State → State
  | 0, s => s
  | n + 1, s =>
    match s.enabledAgents with
    | [] => s
    | first :: rest =>
      let c := s.chooseAgent first rest
      settle n (c.2.agentStep c.1)

/-- What a state becomes at the end of an event in which `count` pieces of the work that takes no time have been done: the rest
of it is done, and then the transmitters choose (log entry 10). A request held back until this event, as by leftover work that it ends,
is so taken after the command's own effect, notices and posted items included, where R193, R194 and R197 allow either order (the model's
choice, log entry 28). -/
def State.settledAfter (count : Nat) (s : State) : State := (settle (Config.settleBound - count) s).chooseFrames

/-- What a state becomes at the end of an event. -/
def State.settled (s : State) : State := s.settledAfter 0

/-- The end of every command. -/
def finish (s : State) : Host.Outcome State Fault Refusal := .next s.settled

end Sys2Proof.Machine
end

