-- ==== Sys2Proof/Machine/DriveCommands.lean ====
section
/-! DEFINITION. The events of the drives: the ready line (R103, R116, R117), index pulses and their absence (R98, R99), the
spin-up timer (R103, R121), the release button (R105, R112, R114), the write-fault line (R148, R150), the ends of head
movements (R100, R101) and of a sector's rewrite (R145); and the expiry of a waiter's timer (R54). -/

namespace Sys2Proof.Machine

/-- The ready line rises in NONE and the drive enters SPIN-UP (R103). With the ready line up already only the level of the
write-protect line is taken over, which a later SPIN-UP reads (log entry 8). -/
def State.riseReady (s : State) (d : DriveNo) (protect : Bool) : State :=
  if (s.drive d).status = .none then
    s.onDrive d fun x => { x with ready := true, writeProtect := protect }.enterSpinUp
  else s.onDrive d fun x => { x with writeProtect := protect }

/-- READY_RISE (R103). -/
def execReadyRise (d : DriveNo) (protect : Bool) (s : State) : Host.Outcome State Fault Refusal :=
  finish (s.riseReady d protect)

/-- READY_FALL (R116, R117). -/
def execReadyFall (d : DriveNo) (s : State) : Host.Outcome State Fault Refusal := finish (s.fallReady d)

/-- INDEX_PULSE: measured and counted while the ready line is up (R98, R99). -/
def execIndexPulse (d : DriveNo) (period : Nat) (reading : Reading) (s : State) : Host.Outcome State Fault Refusal :=
  finish (if (s.drive d).ready then s.indexPulse d period reading else s)

/-- INDEX_TIMEOUT: an armed speed monitor raises a SPEED fault (R99). -/
def execIndexTimeout (d : DriveNo) (s : State) : Host.Outcome State Fault Refusal :=
  finish (if (s.drive d).monitorArmed then s.raiseFault d .speed else s)

/-- SPIN_UP_TIMER_EXPIRY: a running timer's expiry in SPIN-UP or in a RECOVER's spin check raises a SPEED fault (R103, R121). -/
def execSpinUpTimerExpiry (d : DriveNo) (s : State) : Host.Outcome State Fault Refusal :=
  finish (if (s.drive d).spinUpTimer then s.raiseFault d .speed else s)

/-- A press of the release button, by volume status (R105, R112, R114). -/
def State.pressRelease (s : State) (d : DriveNo) : State :=
  match (s.drive d).status with
  | .mounted => s.beginRelease d
  | .unlocked | .foreign => s.onDrive d Drive.enterSpinUp
  | .none | .spinUp | .mounting | .releasing | .formatting | .faulted => s

/-- RELEASE_BUTTON (R114). -/
def execReleaseButton (d : DriveNo) (s : State) : Host.Outcome State Fault Refusal := finish (s.pressRelease d)

/-- The write-fault line is acted on in head statuses FLUSH and LAY alone (R118). -/
def HeadStatus.writes : HeadStatus → Bool
  | .run .flush => true
  | .run .lay => true
  | .run .fill => false
  | .unloaded | .seek | .wait _ | .opened => false

/-- WRITE_FAULT_LINE (R118, R148, R150). -/
def execWriteFaultLine (d : DriveNo) (s : State) : Host.Outcome State Fault Refusal :=
  finish (if (s.drive d).head.writes then s.raiseFault d .write else s)

/-- SEEK_COMPLETE (R100). -/
def execSeekComplete (d : DriveNo) (s : State) : Host.Outcome State Fault Refusal := finish (s.seekEnds d)

/-- RECALIBRATION_COMPLETE (R101). -/
def execRecalibrationComplete (d : DriveNo) (found : Bool) (s : State) : Host.Outcome State Fault Refusal :=
  finish (s.recalibrationEnds d found)

/-- FLUSH_SECTOR_WRITTEN (R10, R145, R146). -/
def execFlushSectorWritten (d : DriveNo) (header : HeaderField) (s : State) : Host.Outcome State Fault Refusal :=
  finish (s.sectorWritten d header)

/-- A waiter's timer runs out (R54). -/
def State.waitExpires (s : State) (l : LineNo) (h : HandleNo) : State :=
  match s.handle l h with
  | .waiting d slot => ((s.removeWaiter d slot l).setHandle l h .free).notify l (.expired h d slot)
  | .free | .read .. | .edit .. | .lost .. => s

/-- WAIT_TIMER_EXPIRY (R54). -/
def execWaitTimerExpiry (l : LineNo) (h : HandleNo) (s : State) : Host.Outcome State Fault Refusal :=
  finish (s.waitExpires l h)

end Sys2Proof.Machine
end

