-- ==== Sys2Proof/Machine/LineCommands.lean ====
section
/-! DEFINITION. The events of the desk lines: frames and flags received (R170, R171, R177, R179), the desk ready input
(R174), a frame sent (R173, R191), and the silence timer's expiry (R180 to R182); and HARDWARE_RESET (R96). -/

namespace Sys2Proof.Machine

/-! ## The receiver -/

/-- The receiver sees a flag: it is in a frame, and on an up line the silence timer restarts with the setting in force (R170,
R179). -/
def LineUnit.seeFlag (x : LineUnit) (seconds : Nat) : LineUnit :=
  { x with receiver := .inFrame, silence := if x.state.isUp then some seconds else x.silence }

/-- A good frame ends with the receive slot empty: it goes into the slot, and a DOWN line comes up (R171, R177). -/
def LineUnit.acceptFrame (x : LineUnit) (f : Frame) (seconds : Nat) : LineUnit :=
  if x.state.isUp then { x with receiveSlot := some ⟨f, false⟩ }
  else { x with receiveSlot := some ⟨f, false⟩, state := .upIdle, silence := some seconds }

/-- A good frame ends (R171). -/
def LineUnit.endGoodFrame (x : LineUnit) (f : Frame) (seconds : Nat) : LineUnit :=
  match x.receiveSlot with
  | some _ => x.setOverrun
  | none => x.acceptFrame f seconds

/-- A frame that is not good is discarded: FRAME-ERROR on an up line, nothing on a DOWN one (R170). -/
def LineUnit.discardBad (x : LineUnit) : LineUnit := if x.state.isUp then x.setFrameError else x

/-- A frame that is not good ends at a flag: with the slot full it is discarded unexamined, with OVERRUN (R170, R171). -/
def LineUnit.endBadFrame (x : LineUnit) : LineUnit :=
  match x.receiveSlot with
  | some _ => x.setOverrun
  | none => x.discardBad

/-- A flag ends the frame of the octets and spare bits gathered (R170). -/
def LineUnit.endFrame (x : LineUnit) (os : List Byte) (spare seconds : Nat) : LineUnit :=
  let y := x.seeFlag seconds
  if x.receiver == .hunting || (os.isEmpty && spare == 0) then y
  else if goodFrame os spare then y.endGoodFrame (parseFrame os) seconds
  else y.endBadFrame

/-- The 527th octet of a frame completes: the frame is not good, and the receiver hunts (R170). -/
def LineUnit.tooLong (x : LineUnit) : LineUnit :=
  if x.receiver == .hunting then x else { x.discardBad with receiver := .hunting }

/-- A whole good frame arrives: an opening flag, the frame, and the flag that ends it; one whose body is longer than 520 octets
runs to its 527th octet (R170, R171; log entry 1). -/
def LineUnit.receive (x : LineUnit) (f : Frame) (seconds : Nat) : LineUnit :=
  if f.body.length ≤ 520 then (x.seeFlag seconds).endGoodFrame f seconds else (x.seeFlag seconds).tooLong

/-! ## Meanings -/

/-- FRAME_END (R170, R171, R177); bits that no receiver can have gathered end no frame (log entries 4 and 9). -/
def execFrameEnd (l : LineNo) (r : Received) (s : State) : Host.Outcome State Fault Refusal :=
  finish
    (if couldGather r then s.onLine l fun x => x.endFrame (gathered r).1 (gathered r).2 s.setup.deskSilence else s)

/-- FRAME_ABORT: the frame is discarded, no flag is set, and the receiver hunts (R170). -/
def execFrameAbort (l : LineNo) (s : State) : Host.Outcome State Fault Refusal :=
  finish (s.onLine l fun x => { x with receiver := .hunting })

/-- FLAG_SEEN (R170, R179). -/
def execFlagSeen (l : LineNo) (s : State) : Host.Outcome State Fault Refusal :=
  finish (s.onLine l fun x => x.seeFlag s.setup.deskSilence)

/-- FRAME_TOO_LONG (R170). -/
def execFrameTooLong (l : LineNo) (s : State) : Host.Outcome State Fault Refusal := finish (s.onLine l LineUnit.tooLong)

/-- DESK_READY_CHANGE: the level changes; a transmitter between frames chooses at the end of the event (R174). -/
def execDeskReadyChange (l : LineNo) (on : Bool) (s : State) : Host.Outcome State Fault Refusal :=
  finish (s.onLine l fun x => { x with deskReady := on })

/-- The closing flag of the frame being sent has been sent: the answer slot empties and the pending answer moves in, or the
notice leaves the queue (R173, R174, R191). -/
def LineUnit.sent (x : LineUnit) : LineUnit :=
  match x.sending with
  | none => x
  | some .answer => { x with answerSlot := x.pendingAnswer, pendingAnswer := none, sending := none }
  | some .notice => { x with notices := x.notices.tail, sending := none }

/-- FRAME_SENT (R173). -/
def execFrameSent (l : LineNo) (s : State) : Host.Outcome State Fault Refusal := finish (s.onLine l LineUnit.sent)

/-! ## A line going DOWN (R180 to R182) -/

/-- The line unit's own share of the DOWN event (R182). -/
def LineUnit.down (x : LineUnit) : LineUnit :=
  { x with
    state := .down
    receiveSlot := none
    answerSlot := none
    pendingAnswer := none
    notices := []
    mask := BitVec.allOnes 9
    flags := LineFlags.clear
    silence := none
    receiver := .hunting
    sending := none }

/-- The item is the desk's sector item, waiting. -/
def WorkItem.waitingSector (i : WorkItem) (l : LineNo) : Bool := i.sectorDesk == some l && !i.begun

/-- A desk's begun SECTOR-WRITE is handed its data (R181). -/
def WorkItem.handData (l : LineNo) (data : List Byte) (i : WorkItem) : WorkItem :=
  match i.work with
  | .sectorWrite m h slot index lsn count commit none =>
    if m = l then { i with work := .sectorWrite m h slot index lsn count commit (some data) } else i
  | _ => i

/-- The desk has a sector item on some queue. -/
def State.hasSectorItem (s : State) (l : LineNo) : Bool :=
  allDrives.any fun d => (s.drive d).queue.any fun i => i.sectorDesk == some l

/-- The desk leaves the commit waiters of a buffer (R91). -/
def Buffer.dropCommit (b : Buffer) (l : LineNo) : Buffer :=
  match b with
  | .opened t rs ws => .opened t rs (ws.filter (· != l))
  | .empty => .empty
  | .retained t rs => .retained t rs

/-- A READ or WRITE at the DOWN event: a waiting item is removed, a begun one stays as leftover work with its data, and a
served commit leaves the commit waiters (R181). -/
def State.abandonSector (s : State) (l : LineNo) (data : List Byte) : State :=
  let t := allDrives.foldl
    (fun u d => u.onDrive d fun x =>
      { x with
        queue := (x.queue.filter fun i => !i.waitingSector l).map (WorkItem.handData l data)
        buffer := x.buffer.dropCommit l }) s
  if t.hasSectorItem l then t.onDesk l fun k => { k with leftover := some .sectorItem } else t

/-- A COPY at the DOWN event (R168, R181). -/
def State.abandonCopy (s : State) (l : LineNo) : State :=
  match s.contextOf l with
  | none => s
  | some c =>
    if (s.context c).inProgress then s.onContext c fun x => { x with halt := true, wanted := false }
    else (s.withdrawWait (.context c)).setContext c CopyContext.reset

/-- The request that was outstanding at the DOWN event is told that no answer is wanted (R181). -/
def State.abandonRequest (s : State) (l : LineNo) (data : List Byte) : OutstandingKind → State
  | .read | .write => s.abandonSector l data
  | .close => s.withdrawWait (.desk l)
  | .copy => s.abandonCopy l
  | .format => (s.onDesk l fun k => { k with leftover := some .format }).haltFormatting
  | .recover => s.onDesk l fun k => { k with leftover := some .recover }

/-- The outstanding record is emptied and its work treated as R181 states. -/
def State.abandonOutstanding (s : State) (l : LineNo) (data : List Byte) : State :=
  match (s.desk l).outstanding with
  | none => s
  | some o => (s.onDesk l fun k => { k with outstanding := none }).abandonRequest l data o.kind

/-- A line goes DOWN: its unit is emptied, its desk's request is abandoned and its four handles are closed; then the grants of those
closings are told (R180 to R182, R70, R190). Any GONE of a release that this ends comes after them (log entry 23). -/
def State.lineDown (s : State) (l : LineNo) : State :=
  s.offerGrants
    (allHandles.foldl (fun t h => t.closeAtDown l h) ((s.onLine l LineUnit.down).abandonOutstanding l (s.writeData l none)))

/-- SILENCE_TIMER_EXPIRY: only a running timer can run out (R180). -/
def execSilenceTimerExpiry (l : LineNo) (s : State) : Host.Outcome State Fault Refusal :=
  finish (if (s.line l).silence.isSome then s.lineDown l else s)

/-! ## HARDWARE_RESET -/

/-- The line units after the reset input: reset values, with the desk ready level kept (R176; log entry 5). -/
def LineUnit.afterReset (x : LineUnit) : LineUnit := { LineUnit.reset with deskReady := x.deskReady }

/-- A drive after the reset input: reset values, with the levels of its inputs kept, and then SPIN-UP where the ready line is up
(R96, R103; log entry 5). -/
def Drive.afterReset (x : Drive) : Drive :=
  let y := { Drive.reset with ready := x.ready, writeProtect := x.writeProtect }
  if y.ready then y.enterSpinUp else y

/-- The part after the reset input: every block at its reset values; input levels, order choices and waiting commands stay
(R16, R44, R74, R96, R129, R135, R154, R176, R178, R196). -/
def State.afterReset (s : State) : State :=
  { State.reset with
    lines := s.lines.map LineUnit.afterReset
    drives := s.drives.map Drive.afterReset
    choices := s.choices
    pending := s.pending }

/-- HARDWARE_RESET (R96). -/
def execHardwareReset (s : State) : Host.Outcome State Fault Refusal := finish s.afterReset

end Sys2Proof.Machine
end

