-- ==== Sys2Proof/Machine/RequestCommands.lean ====
section
/-! DEFINITION. The request commands: a desk's request frame, good and whole, arrives on its line (log entry 1). What follows, at
the same event where R183 allows it, is the dispatcher's and the owner's. -/

namespace Sys2Proof.Machine

/-- A request frame arrives on a line. -/
def State.arriveFrame (s : State) (l : LineNo) (f : Frame) : State := s.onLine l fun x => x.receive f s.setup.deskSilence

/-- A request of a kind, with a tag and a body, arrives on a line (R11, R170, R183). -/
def submit (l : LineNo) (kind tag : Byte) (body : List Byte) (s : State) : Host.Outcome State Fault Refusal :=
  finish (s.arriveFrame l (requestFrame kind tag body))

/-- Two octets of a body, high octet first. -/
def wordOctets (w : Word16) : List Byte := octets2 w.toNat

/-! ## Bodies of several octets (R13) -/

/-- The body of a WRITE. -/
def writeBody (handle index : Byte) (count : Word16) (commit : Byte) (data : List Byte) : List Byte :=
  [handle, index] ++ wordOctets count ++ commit :: data

/-- The body of a SETUP. -/
def setupBody (stepInterval headSettle unload dirtyAge readRetries : Byte) (claimWait : Word16) (deskSilence : Byte) :
    List Byte :=
  [stepInterval, headSettle, unload, dirtyAge, readRetries] ++ wordOctets claimWait ++ [deskSilence]

/-! ## Meanings -/

/-- FIND: qualifier; slug (R13, R32). -/
def execFind (l : LineNo) (tag qualifier : Byte) (slug : List Byte) (s : State) : Host.Outcome State Fault Refusal :=
  submit l 0x01 tag (qualifier :: slug) s

/-- LIST: drive; from-slot (R13, R33). -/
def execList (l : LineNo) (tag drive fromSlot : Byte) (s : State) : Host.Outcome State Fault Refusal :=
  submit l 0x02 tag [drive, fromSlot] s

/-- OPEN: qualifier; slug; mode; wait flag (R13, R49). -/
def execOpenStory (l : LineNo) (tag qualifier : Byte) (slug : List Byte) (mode wait : Byte) (s : State) :
    Host.Outcome State Fault Refusal :=
  submit l 0x03 tag (qualifier :: slug ++ [mode, wait]) s

/-- CLOSE: handle (R13, R57). -/
def execClose (l : LineNo) (tag handle : Byte) (s : State) : Host.Outcome State Fault Refusal :=
  submit l 0x04 tag [handle] s

/-- CREATE: drive; slug (R13, R31). -/
def execCreate (l : LineNo) (tag drive : Byte) (slug : List Byte) (s : State) : Host.Outcome State Fault Refusal :=
  submit l 0x05 tag (drive :: slug) s

/-- READ: handle; index (R13, R86). -/
def execRead (l : LineNo) (tag handle index : Byte) (s : State) : Host.Outcome State Fault Refusal :=
  submit l 0x06 tag [handle, index] s

/-- WRITE: handle; index; count; commit flag; data (R13, R87). -/
def execWrite (l : LineNo) (tag handle index : Byte) (count : Word16) (commit : Byte) (data : List Byte) (s : State) :
    Host.Outcome State Fault Refusal :=
  submit l 0x07 tag (writeBody handle index count commit data) s

/-- TRIM: handle; new length; new tail octets (R13, R92). -/
def execTrim (l : LineNo) (tag handle length : Byte) (tail : Word16) (s : State) : Host.Outcome State Fault Refusal :=
  submit l 0x08 tag ([handle, length] ++ wordOctets tail) s

/-- STAGE: handle; stage (R13, R34). -/
def execStage (l : LineNo) (tag handle stage : Byte) (s : State) : Host.Outcome State Fault Refusal :=
  submit l 0x09 tag [handle, stage] s

/-- PURGE: handle (R13, R35). -/
def execPurge (l : LineNo) (tag handle : Byte) (s : State) : Host.Outcome State Fault Refusal :=
  submit l 0x0A tag [handle] s

/-- COPY: handle; destination drive; slug (R13, R156). -/
def execCopy (l : LineNo) (tag handle drive : Byte) (slug : List Byte) (s : State) : Host.Outcome State Fault Refusal :=
  submit l 0x0B tag ([handle, drive] ++ slug) s

/-- HALT (R186). -/
def execHalt (l : LineNo) (tag : Byte) (s : State) : Host.Outcome State Fault Refusal := submit l 0x0C tag [] s

/-- CLEAR (R187). -/
def execClear (l : LineNo) (tag : Byte) (s : State) : Host.Outcome State Fault Refusal := submit l 0x0D tag [] s

/-- STATUS (R194). -/
def execStatus (l : LineNo) (tag : Byte) (s : State) : Host.Outcome State Fault Refusal := submit l 0x0E tag [] s

/-- VOLUME: drive (R13, R195). -/
def execVolume (l : LineNo) (tag drive : Byte) (s : State) : Host.Outcome State Fault Refusal := submit l 0x0F tag [drive] s

/-- MASK: mask (R13, R193). -/
def execMask (l : LineNo) (tag : Byte) (mask : Word16) (s : State) : Host.Outcome State Fault Refusal :=
  submit l 0x10 tag (wordOctets mask) s

/-- BREAK: drive; slot (R13, R61). -/
def execBreakClaim (l : LineNo) (tag drive slot : Byte) (s : State) : Host.Outcome State Fault Refusal :=
  submit l 0x18 tag [drive, slot] s

/-- RELEASE: drive; force flag (R13, R114). -/
def execRelease (l : LineNo) (tag drive force : Byte) (s : State) : Host.Outcome State Fault Refusal :=
  submit l 0x19 tag [drive, force] s

/-- MOUNT: drive (R13, R105). -/
def execMount (l : LineNo) (tag drive : Byte) (s : State) : Host.Outcome State Fault Refusal := submit l 0x1A tag [drive] s

/-- FORMAT: drive; volume name; serial (R13, R124). -/
def execFormat (l : LineNo) (tag drive : Byte) (name : List Byte) (serial : Word16) (s : State) :
    Host.Outcome State Fault Refusal :=
  submit l 0x1B tag (drive :: name ++ wordOctets serial) s

/-- RECOVER: drive (R13, R121). -/
def execRecover (l : LineNo) (tag drive : Byte) (s : State) : Host.Outcome State Fault Refusal :=
  submit l 0x1C tag [drive] s

/-- DISCARD: drive (R13, R123). -/
def execDiscard (l : LineNo) (tag drive : Byte) (s : State) : Host.Outcome State Fault Refusal :=
  submit l 0x1D tag [drive] s

/-- SETUP: the seven values (R13, R197). -/
def execSetup (l : LineNo) (tag stepInterval headSettle unload dirtyAge readRetries : Byte) (claimWait : Word16)
    (deskSilence : Byte) (s : State) : Host.Outcome State Fault Refusal :=
  submit l 0x1E tag (setupBody stepInterval headSettle unload dirtyAge readRetries claimWait deskSilence) s

/-- DROP: drive; slot (R13, R36). -/
def execDrop (l : LineNo) (tag drive slot : Byte) (s : State) : Host.Outcome State Fault Refusal :=
  submit l 0x1F tag [drive, slot] s

end Sys2Proof.Machine
end

