-- ==== Sys2Proof/Machine/Dispatch.lean ====
section
/-! DEFINITION. The meaning of every command: one arm per constructor of `Instr`. -/

namespace Sys2Proof.Machine

def exec (i : Instr) (s : State) : Host.Outcome State Fault Refusal :=
  match i with
  | .hardwareReset => Sys2Proof.Machine.execHardwareReset s
  | .frameEnd l r => Sys2Proof.Machine.execFrameEnd l r s
  | .frameAbort l => Sys2Proof.Machine.execFrameAbort l s
  | .flagSeen l => Sys2Proof.Machine.execFlagSeen l s
  | .deskReadyChange l on => Sys2Proof.Machine.execDeskReadyChange l on s
  | .frameSent l => Sys2Proof.Machine.execFrameSent l s
  | .silenceTimerExpiry l => Sys2Proof.Machine.execSilenceTimerExpiry l s
  | .find l tag q slug => Sys2Proof.Machine.execFind l tag q slug s
  | .list l tag d slot => Sys2Proof.Machine.execList l tag d slot s
  | .openStory l tag q slug mode wait => Sys2Proof.Machine.execOpenStory l tag q slug mode wait s
  | .close l tag h => Sys2Proof.Machine.execClose l tag h s
  | .create l tag d slug => Sys2Proof.Machine.execCreate l tag d slug s
  | .read l tag h index => Sys2Proof.Machine.execRead l tag h index s
  | .write l tag h index count commit data => Sys2Proof.Machine.execWrite l tag h index count commit data s
  | .trim l tag h m tail => Sys2Proof.Machine.execTrim l tag h m tail s
  | .stage l tag h stage => Sys2Proof.Machine.execStage l tag h stage s
  | .purge l tag h => Sys2Proof.Machine.execPurge l tag h s
  | .copy l tag h d slug => Sys2Proof.Machine.execCopy l tag h d slug s
  | .halt l tag => Sys2Proof.Machine.execHalt l tag s
  | .clear l tag => Sys2Proof.Machine.execClear l tag s
  | .status l tag => Sys2Proof.Machine.execStatus l tag s
  | .volume l tag d => Sys2Proof.Machine.execVolume l tag d s
  | .mask l tag m => Sys2Proof.Machine.execMask l tag m s
  | .breakClaim l tag d slot => Sys2Proof.Machine.execBreakClaim l tag d slot s
  | .release l tag d force => Sys2Proof.Machine.execRelease l tag d force s
  | .mount l tag d => Sys2Proof.Machine.execMount l tag d s
  | .format l tag d name serial => Sys2Proof.Machine.execFormat l tag d name serial s
  | .recover l tag d => Sys2Proof.Machine.execRecover l tag d s
  | .discard l tag d => Sys2Proof.Machine.execDiscard l tag d s
  | .setup l tag a b c e f g k => Sys2Proof.Machine.execSetup l tag a b c e f g k s
  | .drop l tag d slot => Sys2Proof.Machine.execDrop l tag d slot s
  | .readyRise d protect => Sys2Proof.Machine.execReadyRise d protect s
  | .readyFall d => Sys2Proof.Machine.execReadyFall d s
  | .indexPulse d period reading => Sys2Proof.Machine.execIndexPulse d period reading s
  | .indexTimeout d => Sys2Proof.Machine.execIndexTimeout d s
  | .spinUpTimerExpiry d => Sys2Proof.Machine.execSpinUpTimerExpiry d s
  | .releaseButton d => Sys2Proof.Machine.execReleaseButton d s
  | .writeFaultLine d => Sys2Proof.Machine.execWriteFaultLine d s
  | .seekComplete d => Sys2Proof.Machine.execSeekComplete d s
  | .recalibrationComplete d found => Sys2Proof.Machine.execRecalibrationComplete d found s
  | .flushSectorWritten d header => Sys2Proof.Machine.execFlushSectorWritten d header s
  | .waitTimerExpiry l h => Sys2Proof.Machine.execWaitTimerExpiry l h s
  | .frameTooLong l => Sys2Proof.Machine.execFrameTooLong l s

end Sys2Proof.Machine
end

