-- ==== Sys2Proof/Machine/Step.lean ====
section
/-! DEFINITION. One step: the command at the front of the queue, or idling on an empty queue; and what the host puts at the
front of the queue. -/

namespace Sys2Proof.Machine

/-- Take the command at the front of the queue and run it on the rest; with no command waiting the block idles (log entry
16). -/
def step (s : State) : Host.Outcome State Fault Refusal :=
  match s.pending with
  | [] => .next s
  | i :: rest => exec i { s with pending := rest }

/-- The command a word of the table spells, at the front of the queue; no row of the table gives bits, so no word spells
one (log entry 17). -/
def State.withFetchWord (s : State) (nbits w : Nat) : State :=
  match Sys2Proof.decodeTableWord nbits w with
  | some i => { s with pending := i :: s.pending }
  | none => s

end Sys2Proof.Machine
end

