-- ==== Sys2Proof/Safety.lean ====
section
/-! DEFINITION. What counts as a safe state, in the terms the statements use: nothing left to do that takes no time, what every
step keeps (door locks, notice queues, DOWN lines, the setup table), and when a line is ready to have a request taken. -/

namespace Sys2Proof.Machine

/-- No drive and no dispatcher has work left that takes no time (R108, R111, R112, R183). -/
def Quiet (s : State) : Prop := s.enabledAgents = []

/-- A frame that arrives on the line at this state is taken at the same event: the receive slot and the answer slot are empty and
the desk has no leftover work (R171, R183). -/
def LineFree (s : State) (l : LineNo) : Prop :=
  (s.line l).receiveSlot = none ∧ (s.line l).answerSlot = none ∧ (s.desk l).leftover = none

/-- The line is free, and its state does not turn a request away: DOWN (it comes up at the frame) or UP-IDLE (R177, R184). -/
def LineOpen (s : State) (l : LineNo) : Prop :=
  LineFree s l ∧ ((s.line l).state = .down ∨ (s.line l).state = .upIdle)

/-- The values of a setup table lie in the ranges of R196. -/
def Setup.InRange (t : Setup) : Prop :=
  (2 ≤ t.stepInterval ∧ t.stepInterval ≤ 20) ∧ (10 ≤ t.headSettle ∧ t.headSettle ≤ 60) ∧ (2 ≤ t.unload ∧ t.unload ≤ 100) ∧
    (8 ≤ t.dirtyAge ∧ t.dirtyAge ≤ 240) ∧ t.readRetries ≤ 6 ∧ (5 ≤ t.claimWait ∧ t.claimWait ≤ 300) ∧
    (2 ≤ t.deskSilence ∧ t.deskSilence ≤ 60)

/-- A DOWN line holds nothing: slots and queue empty, flags clear, every notice kind in its mask, its timer stopped (R177,
R182). -/
def LineUnit.DownIsEmpty (x : LineUnit) : Prop :=
  x.state = .down →
    x.receiveSlot = none ∧ x.answerSlot = none ∧ x.pendingAnswer = none ∧ x.notices = [] ∧ x.mask = BitVec.allOnes 9 ∧
      x.flags = LineFlags.clear ∧ x.silence = none ∧ x.sending = none

/-- What a line unit keeps: at most six notices (R191), and nothing held while DOWN (R177, R182). -/
def LineUnit.Sound (x : LineUnit) : Prop := x.notices.length ≤ Config.noticePlaces ∧ x.DownIsEmpty

/-- What a drive keeps: its door lock is held exactly in the statuses of R97. -/
def Drive.Sound (x : Drive) : Prop := x.doorLock = x.status.locksDoor

/-- What the state keeps at every step: sound drives, sound lines, a setup table in its ranges. -/
def Sound (s : State) : Prop := (∀ d, (s.drive d).Sound) ∧ (∀ l, (s.line l).Sound) ∧ s.setup.InRange

/-! ## Heads, buffers and the channel (R97, R129, R137) -/

/-- What a job is for (R135). -/
def Job.purpose : Job → Purpose
  | .fill .. => .fill
  | .flush .. => .flush
  | .lay .. => .lay

/-- The job a head status stands for (R96). -/
def HeadStatus.runs : HeadStatus → Option Purpose
  | .run p => some p
  | .unloaded | .seek | .wait _ | .opened => none

/-- The head statuses that a volume status admits, with or without a RECOVER past its spin check (R97). -/
def VolumeStatus.admits (v : VolumeStatus) (recovering : Bool) (h : HeadStatus) : Bool :=
  match v with
  | .none | .spinUp | .foreign | .unlocked => h == .unloaded
  | .mounting => h == .seek || h == .wait .fill || h == .run .fill
  | .mounted | .releasing => h != .wait .lay && h != .run .lay
  | .formatting => h == .seek || h == .wait .lay || h == .run .lay
  | .faulted => if recovering then h == .seek || h == .wait .flush || h == .run .flush else h == .unloaded

/-- The head statuses in which a drive holds a track (R97). -/
def HeadStatus.holdsTrack : HeadStatus → Bool
  | .opened | .wait .flush | .run .flush => true
  | .unloaded | .seek | .wait .fill | .wait .lay | .run .fill | .run .lay => false

/-- The buffer is OPEN. -/
def Buffer.isOpen : Buffer → Bool
  | .opened .. => true
  | .empty | .retained .. => false

/-- The buffer is RETAINED. -/
def Buffer.isRetained : Buffer → Bool
  | .retained .. => true
  | .empty | .opened .. => false

/-- The head seeks a cylinder, its recalibration over or not needed. -/
def Motion.isSeek : Motion → Bool
  | .seeking .. => true
  | .still | .recalibrating .. => false

/-- The buffer is as the volume status and the head status give it (R97): in MOUNTED and RELEASING it is OPEN exactly where the head
holds a track, and EMPTY otherwise; in FAULTED it is EMPTY or RETAINED, RETAINED on a volume alone and wherever a RECOVER seeks,
waits or flushes for it; it is EMPTY in every other status. -/
def Drive.BufferSound (x : Drive) : Prop :=
  match x.status with
  | .mounted | .releasing => if x.head.holdsTrack then x.buffer.isOpen = true else x.buffer = .empty
  | .faulted =>
    (x.buffer = .empty ∨ (x.buffer.isRetained = true ∧ x.faultOrigin = .mountedVolume)) ∧
      (x.head.holdsTrack = true ∨ x.motion.isSeek = true → x.buffer ≠ .empty)
  | .none | .spinUp | .mounting | .formatting | .foreign | .unlocked => x.buffer = .empty

/-- What a drive's head, buffer, movement and RECOVER keep: head and buffer as R97 admits them, 15 records in a buffer that is not
EMPTY (R129), a movement only in head status SEEK (R100, R101), a RECOVER only in FAULTED (R121). -/
def Drive.HeadSound (x : Drive) : Prop :=
  x.status.admits (x.recover == some .running) x.head = true ∧ x.BufferSound ∧
    (x.buffer ≠ .empty → x.buffer.records.length = 15) ∧ (x.motion ≠ .still → x.head = .seek) ∧
    (x.recover ≠ none → x.status = .faulted)

/-- What the recording channel keeps: a drive runs a job exactly where it holds the channel for one of that kind, the holder is the
last-granted drive, no drive waits for a free channel (R136, R137), and a FILL has 15 results. -/
def ChannelSound (s : State) : Prop :=
  (∀ d, (s.jobOf d).map Job.purpose = (s.drive d).head.runs) ∧
    (∀ d j, s.channel.holder = some (d, j) → s.channel.lastGranted = d) ∧
    (∀ d, (s.drive d).head.waits = true → s.channel.holder ≠ none) ∧
    ∀ d track retries revolution rs, s.channel.holder = some (d, .fill track retries revolution rs) → rs.length = 15

/-- Heads, buffers and the channel agree. -/
def HeadsSound (s : State) : Prop := (∀ d, (s.drive d).HeadSound) ∧ ChannelSound s

/-! ## Handles, claims and copies (R16, R47, R48, R154, R155) -/

/-- The part holds a catalogue for the drive: MOUNTED, RELEASING, and FAULTED with origin MOUNTED-VOLUME (R16, R48). -/
def Drive.hasCatalogue (x : Drive) : Bool :=
  match x.status with
  | .mounted | .releasing => true
  | .faulted => x.faultOrigin == .mountedVolume
  | .none | .spinUp | .mounting | .formatting | .foreign | .unlocked => false

/-- The claim fields of an entry (R47): no desk twice on the wait list, no waiter without an edit holder, and no claim on an entry
that is not LIVE. -/
def Entry.ClaimsSound (e : Entry) : Prop :=
  (e.waiters.map Waiter.desk).Nodup ∧ (e.editHolder = none → e.waiters = []) ∧
    (e.use ≠ .live → e.editHolder = none ∧ e.waiters = [] ∧ e.readers = Vector.replicate 8 false)

/-- The handles of a desk that name an entry, and the entry's claim fields, agree (R48). -/
def ClaimsAgree (s : State) (l : LineNo) (d : DriveNo) (slot : SlotNo) : Prop :=
  ((s.entry d slot).readers.get l = true ↔ ∃ h, s.handle l h = .read d slot) ∧
    ((s.entry d slot).editHolder = some l ↔ ∃ h, s.handle l h = .edit d slot) ∧
    (l ∈ (s.entry d slot).waiters.map Waiter.desk ↔ ∃ h, s.handle l h = .waiting d slot) ∧
    ∀ h k, (s.handle l h).claims d slot = true → (s.handle l k).claims d slot = true → h = k

/-- A context in READ-STEP or WRITE-STEP copies from a slot of a drive. -/
def CopyContext.copiesFrom (x : CopyContext) (d : DriveNo) (slot : SlotNo) : Bool :=
  x.inProgress && x.sourceDrive == d && x.sourceSlot == slot

/-- A context in READ-STEP or WRITE-STEP copies into a slot of a drive. -/
def CopyContext.copiesTo (x : CopyContext) (d : DriveNo) (slot : SlotNo) : Bool :=
  x.inProgress && x.destDrive == d && x.destSlot == slot

/-- What a copy in progress keeps: a LIVE source and a FILLING destination, both on drives in service (R154, R155, R157). -/
def CopySound (s : State) (x : CopyContext) : Prop :=
  x.inProgress = true →
    (s.entry x.sourceDrive x.sourceSlot).use = .live ∧ (s.entry x.destDrive x.destSlot).use = .filling ∧
      (s.drive x.sourceDrive).status.serves = true ∧ (s.drive x.destDrive).status.serves = true

/-- What the copies keep: each in progress is sound, an entry's copy-reader count is the number of copies that read it (R19), and an
entry is FILLING exactly where one copy fills it. -/
def CopiesSound (s : State) : Prop :=
  (∀ c, CopySound s (s.context c)) ∧
    ∀ d slot,
      (s.entry d slot).copyReaders = allContexts.countP (fun c => (s.context c).copiesFrom d slot) ∧
        allContexts.countP (fun c => (s.context c).copiesTo d slot) = if (s.entry d slot).use = .filling then 1 else 0

/-- Catalogues, handles, claims and copies agree. -/
def ClaimsSound (s : State) : Prop :=
  (∀ d, (s.volume d).isSome = (s.drive d).hasCatalogue) ∧ (∀ d v, s.volume d = some v → v.entries.length = 112) ∧
    (∀ d slot, (s.entry d slot).ClaimsSound ∧ ∀ l, ClaimsAgree s l d slot) ∧ CopiesSound s

/-! ## Space (R18, R74, R75) -/

/-- The LSNs of an extent. -/
def Extent.sectors (x : Extent) : List Nat := List.range' x.start x.count

/-- The LSNs that the entries of a volume hold. -/
def Volume.held (v : Volume) : List Nat := v.entries.flatMap fun e => e.extents.flatMap Extent.sectors

/-- The relations of R18, and no extent on an entry that is neither LIVE nor FILLING (R17). -/
def Entry.SpaceSound (e : Entry) : Prop :=
  (e.holdsSlug = false → e.extents = []) ∧ e.extents.length ≤ 14 ∧ (∀ x ∈ e.extents, 1 ≤ x.count) ∧ e.length ≤ 96 ∧
    e.tail ≤ 512 ∧ (e.tail = 0 ↔ e.length = 0)

/-- What the space map of a volume keeps: 112 entries with the relations of R18; a sector marked used exactly where it is one of LSN 0
to 14 or held by an entry, held by one alone, and in the data area; a free count that is the number of sectors not marked; a cursor in
the data area (R74, R75). -/
def Volume.SpaceSound (v : Volume) : Prop :=
  v.entries.length = 112 ∧ (∀ e ∈ v.entries, e.SpaceSound) ∧ v.held.Nodup ∧ (∀ n ∈ v.held, 15 ≤ n ∧ n < 2310) ∧
    (∀ n : Fin 2310, v.marks.getLsbD n = true ↔ n.val < 15 ∨ n.val ∈ v.held) ∧ v.freeCount + v.held.length + 15 = 2310 ∧
    15 ≤ v.cursor ∧ v.cursor < 2310

/-- Every space map agrees with its catalogue. -/
def SpaceSound (s : State) : Prop := ∀ d v, s.volume d = some v → v.SpaceSound

/-! ## Work queues and outstanding requests (R82, R106, R178) -/

/-- The kind of request a desk's item on a queue belongs to; FORMAT's item is desk 0's (R106). -/
def WorkItem.requestOf (l : LineNo) (i : WorkItem) : Option OutstandingKind :=
  match i.work with
  | .sectorRead m .. => if m = l then some .read else none
  | .sectorWrite m .. => if m = l then some .write else none
  | .format .. => if l = 0 then some .format else none
  | .copyRead .. | .copyWrite .. | .catalogueWrite | .release => none

/-- The catalogue waits at a drive. -/
def State.waitsAt (s : State) (d : DriveNo) : List CatalogueWaiter :=
  match s.volume d with
  | none => []
  | some v => v.flushList ++ v.nextRender

/-- The work of a desk that stands at a drive: its items on the queue, its commit and catalogue waits, and for desk 0 the mount that
ends a FORMAT and a RECOVER. -/
def State.workAt (s : State) (l : LineNo) (d : DriveNo) : List OutstandingKind :=
  (s.drive d).queue.filterMap (WorkItem.requestOf l) ++
    ((s.drive d).buffer.commitWaiters.filter (· == l)).map (fun _ => .write) ++
    ((s.waitsAt d).filter (· == .desk l)).map (fun _ => .close) ++
    (if l = 0 ∧ (s.drive d).formatMount = true then [.format] else []) ++
    (if l = 0 ∧ (s.drive d).recover ≠ none then [.recover] else [])

/-- The context carries the desk's outstanding COPY, whose answer is wanted (R154). -/
def State.carries (s : State) (c : ContextNo) (l : LineNo) : Bool :=
  (s.context c).phase != .free && (s.context c).desk == l && (s.context c).wanted

/-- The work of a desk, wherever it stands; a copy whose answer nobody wants is no desk's. -/
def State.workOf (s : State) (l : LineNo) : List OutstandingKind :=
  allDrives.flatMap (s.workAt l) ++ (allContexts.filter fun c => s.carries c l).map fun _ => .copy

/-- What a desk keeps (R176, R178, R181): its line is busy exactly while a request is outstanding; with one outstanding its work is
that one request's and nothing is left over; what a line gone DOWN has left over is one request's work; otherwise it has none. -/
def DeskSound (s : State) (l : LineNo) : Prop :=
  ((s.line l).state = .upBusy ↔ (s.desk l).outstanding ≠ none) ∧
    match (s.desk l).outstanding, (s.desk l).leftover with
    | some o, k => s.workOf l = [o.kind] ∧ k = none
    | none, some .sectorItem => s.workOf l = [.read] ∨ s.workOf l = [.write]
    | none, some .format => s.workOf l = [.format]
    | none, some .recover => s.workOf l = [.recover]
    | none, none => s.workOf l = []

/-- A RELEASE item is the last of a RELEASING volume that no handle is open on and no copy uses, and there is no other (R112, R115). -/
def ReleaseItemSound (s : State) (d : DriveNo) : Prop :=
  (s.drive d).queue.any WorkItem.isRelease = true →
    (s.drive d).status = .releasing ∧ (s.drive d).queue.dropLast.any WorkItem.isRelease = false ∧
      ((s.drive d).queue.getLast?.map WorkItem.isRelease) = some true ∧ s.noOpenHandles d = true ∧
      ∀ c, (s.context c).uses d = false

/-- The item is a FORMAT. -/
def WorkItem.isFormat (i : WorkItem) : Bool :=
  match i.work with
  | .format .. => true
  | .sectorRead .. | .sectorWrite .. | .copyRead .. | .copyWrite .. | .catalogueWrite | .release => false

/-- A queue holds at most 12 items and at most one CATALOGUE-WRITE (R96, R106); it is the begun FORMAT item alone in FORMATTING, holds
no FORMAT item in MOUNTED and RELEASING, and is empty in every other status (R105, R116, R119); commit waiters wait for a flush (R90);
a FORMAT not yet answered in its mount is in MOUNTING (R127). -/
def QueueSound (x : Drive) : Prop :=
  x.queue.length ≤ 12 ∧ x.queue.countP WorkItem.isCatalogueWrite ≤ 1 ∧
    (match x.status with
      | .mounted | .releasing => ∀ i ∈ x.queue, i.isFormat = false
      | .formatting => ∃ i, x.queue = [i] ∧ i.isFormat = true ∧ i.begun = true
      | .none | .spinUp | .mounting | .foreign | .unlocked | .faulted => x.queue = []) ∧
    (x.buffer.commitWaiters ≠ [] → x.head = .wait .flush ∨ x.head = .run .flush) ∧
    (x.formatMount = true → x.status = .mounting)

/-- The items of a copy context on a drive's queue: whether each is a COPY-READ. -/
def State.copyItems (s : State) (c : ContextNo) (d : DriveNo) : List Bool :=
  (s.drive d).queue.filterMap fun i =>
    match i.work with
    | .copyRead b .. => if b = c then some true else none
    | .copyWrite b .. => if b = c then some false else none
    | .sectorRead .. | .sectorWrite .. | .catalogueWrite | .release | .format .. => none

/-- A copy context has one item, a COPY-READ on its source drive or a COPY-WRITE on its destination drive, exactly in READ-STEP and
WRITE-STEP, and one catalogue wait exactly in COMMIT-WAIT (R106, R158, R159, R161). -/
def ContextWorkSound (s : State) (c : ContextNo) : Prop :=
  (∀ d, s.copyItems c d =
    match (s.context c).phase with
    | .readStep => if d = (s.context c).sourceDrive then [true] else []
    | .writeStep => if d = (s.context c).destDrive then [false] else []
    | .free | .commitWait => []) ∧
    (allDrives.flatMap fun d => (s.waitsAt d).filter (· == .context c)) =
      if (s.context c).phase = .commitWait then [.context c] else []

/-- Queues, waits, copies and outstanding requests agree. -/
def WorkSound (s : State) : Prop :=
  (∀ d, QueueSound (s.drive d) ∧ ReleaseItemSound s d) ∧ (∀ c, ContextWorkSound s c) ∧ ∀ l, DeskSound s l

/-! ## Words for the statements -/

/-- A request frame has arrived on a line and stands in its receive slot. -/
def State.hears (s : State) (l : LineNo) (kind tag : Byte) (body : List Byte) : State :=
  s.arriveFrame l (requestFrame kind tag body)

/-- The state after an index pulse has been measured and counted on a drive, before its job's share of the pulse (R98, R110, R111). -/
def State.ticked (s : State) (d : DriveNo) (period : Nat) : State :=
  s.onDrive d fun x => ({ x with measurement := x.measurement.pulse period }).countPulse

/-- The drive unit has work of the desk: a sector item, a commit wait, and for desk 0 a FORMAT or a RECOVER. -/
def State.hasUnitWork (s : State) (l : LineNo) (d : DriveNo) : Bool := (s.workAt l d).any (· != .close)

/-- A catalogue wait of the desk stands at the drive, its CLOSE's or its COPY's (R41). -/
def State.hasWait (s : State) (l : LineNo) (d : DriveNo) : Bool :=
  (s.waitsAt d).contains (.desk l) || allContexts.any fun c => s.carries c l && (s.waitsAt d).contains (.context c)

/-- A copy in progress whose answer the desk wants uses the drive (R155). -/
def State.hasCopy (s : State) (l : LineNo) (d : DriveNo) : Bool :=
  allContexts.any fun c => s.carries c l && (s.context c).uses d

/-- What a desk's line `x` becomes when the desk's outstanding request ends with an outcome (R173, R176). -/
def State.answered (s : State) (l : LineNo) (oc : Outcome) (results : List Byte) (x : LineUnit) : LineUnit :=
  ((s.setLine l x).endRequest l oc results).line l

/-- A desk's line when its items leave the drive's queue: the data of a SECTOR-WRITE is discarded with its item (R84). -/
def State.withoutData (s : State) (l : LineNo) (d : DriveNo) : LineUnit :=
  if (s.drive d).queue.any fun i => i.requestOf l == some .write then (s.emptyTakenSlot l).line l else s.line l

/-- The part is quiet, and a request that arrives on the line is taken at once and not turned away for the line's state. -/
def Ready (s : State) (l : LineNo) : Prop := Quiet s ∧ LineOpen s l

end Sys2Proof.Machine
end

