-- ==== Sys2Proof/WellFormed.lean ====
section
/-! DEFINITION. Well-formed commands: requests whose operands lie in the ranges R13 gives, and events whose operands say what the
inputs can carry. `exec` has a meaning for every command; a request that is not well-formed is answered MALFORMED. -/

namespace Sys2Proof

open Machine

/-- An octet lies below a bound. -/
def below (b : Byte) (n : Nat) : Bool := decide (b.toNat < n)

/-- A drive operand (R13). -/
def driveWf (b : Byte) : Bool := below b 4

/-- A slot operand (R13). -/
def slotWf (b : Byte) : Bool := below b 112

/-- A handle operand: 1 to 4 (R13). -/
def handleWf (b : Byte) : Bool := below b 5 && b != 0

/-- A flag or mode operand: 0 or 1 (R13). -/
def flagWf (b : Byte) : Bool := below b 2

/-- A qualifier: a drive or 255 (R13). -/
def qualifierWf (b : Byte) : Bool := driveWf b || b == 255

/-- A WRITE's count and data: 1 to 512, and as many data octets (R13). -/
def writeWf (count : Word16) (data : List Byte) : Bool :=
  decide (1 ≤ count.toNat) && decide (count.toNat ≤ 512) && data.length == count.toNat

/-- A header field has seven octets unless it is broken (R7, R8). -/
def headerWf (h : HeaderField) : Bool := h.violation || h.octets.length == 7

/-- A sector frame has a whole header unless it is broken, and 515 data octets where a field was found (R7, R8). -/
def sectorFrameWf (f : SectorFrame) : Bool :=
  headerWf f.header &&
    match f.data with
    | .field os _ => os.length == 515
    | .notFound | .violation => true

/-- A reading's sector frames are whole. -/
def readingWf : Reading → Bool
  | .frames fs => fs.all sectorFrameWf
  | .cells _ => true

/-- What a receiver can have gathered when a flag ends a frame: no run of seven ones, which would have ended the frame before, at
most 526 octets, then fewer than 8 spare bits (R170). -/
def receivedWf (r : Received) : Bool :=
  couldGather r && decide ((gathered r).1.length ≤ 526) && decide ((gathered r).2 < 8)

/-- A command is well-formed. -/
def Instr.wf : Instr → Bool
  | .hardwareReset => true
  | .frameEnd _ r => receivedWf r
  | .frameAbort _ => true
  | .flagSeen _ => true
  | .deskReadyChange _ _ => true
  | .frameSent _ => true
  | .silenceTimerExpiry _ => true
  | .find _ _ q slug => qualifierWf q && slugWellFormed slug
  | .list _ _ d slot => driveWf d && slotWf slot
  | .openStory _ _ q slug mode wait => qualifierWf q && slugWellFormed slug && flagWf mode && flagWf wait
  | .close _ _ h => handleWf h
  | .create _ _ d slug => driveWf d && slugWellFormed slug
  | .read _ _ h _ => handleWf h
  | .write _ _ h _ count commit data => handleWf h && flagWf commit && writeWf count data
  | .trim _ _ h _ tail => handleWf h && decide (tail.toNat ≤ 512)
  | .stage _ _ h st => handleWf h && below st 5
  | .purge _ _ h => handleWf h
  | .copy _ _ h d slug => handleWf h && driveWf d && slugWellFormed slug
  | .halt _ _ => true
  | .clear _ _ => true
  | .status _ _ => true
  | .volume _ _ d => driveWf d
  | .mask _ _ m => decide (m.toNat < 512)
  | .breakClaim _ _ d slot => driveWf d && slotWf slot
  | .release _ _ d force => driveWf d && flagWf force
  | .mount _ _ d => driveWf d
  | .format _ _ d name _ => driveWf d && nameWellFormed name
  | .recover _ _ d => driveWf d
  | .discard _ _ d => driveWf d
  | .setup .. => true
  | .drop _ _ d slot => driveWf d && slotWf slot
  | .readyRise _ _ => true
  | .readyFall _ => true
  | .indexPulse _ _ r => readingWf r
  | .indexTimeout _ => true
  | .spinUpTimerExpiry _ => true
  | .releaseButton _ => true
  | .writeFaultLine _ => true
  | .seekComplete _ => true
  | .recalibrationComplete _ _ => true
  | .flushSectorWritten _ header => headerWf header
  | .waitTimerExpiry _ _ => true
  | .frameTooLong _ => true

end Sys2Proof
end

