-- ==== Sys2Proof/Certificates/Slice0/Obligations.lean ====
section
/-! DEFINITION. The statements for the provers. `s.hears l kind tag body` is the state in which the request has just arrived;
`t.settledAfter 1` is the end of an event in which that request's take is the first piece of work that takes no time. Conventions of
the model that statements about commands rest on: a request command is a whole good frame (log entry 1), and what follows an effect at
the same event is done piece by piece, up to a bound, in the order the choices give (log entries 2 and 3). -/

open Sys2Proof Sys2Proof.Machine

/-! ## The step, reset and what every step keeps -/

/-- A step takes the command at the front of the queue and runs it on the queue's rest. -/
def Obligations.StepRunsTheFrontCommand : Prop :=
  ∀ (c : Instr) (rest : List Instr) (s : State),
    step { s with pending := c :: rest } = exec c { s with pending := rest }

/-- The reset state holds the values the reset columns give. -/
def Obligations.ResetHoldsTheGivenValues : Prop :=
  (∀ l, (State.reset.line l).state = .down ∧ (State.reset.line l).receiveSlot = none ∧
    (State.reset.line l).answerSlot = none ∧ (State.reset.line l).pendingAnswer = none ∧
    (State.reset.line l).notices = [] ∧ (State.reset.line l).mask = BitVec.allOnes 9 ∧
    (State.reset.line l).flags = ⟨false, false, false⟩ ∧ (State.reset.line l).silence = none ∧
    (State.reset.line l).receiver = .hunting) ∧
  (∀ l, (∀ h, State.reset.handle l h = .free) ∧ (State.reset.desk l).outstanding = none) ∧
  (∀ d, (State.reset.drive d).status = .none ∧ (State.reset.drive d).head = .unloaded ∧
    (State.reset.drive d).cylinder = none ∧ (State.reset.drive d).protect = false ∧ (State.reset.drive d).fault = none ∧
    (State.reset.drive d).measurement = ⟨0, 0, false⟩ ∧ (State.reset.drive d).spinUpTimer = false ∧
    (State.reset.drive d).unloadCount = none ∧ (State.reset.drive d).dirtyAge = none ∧
    (State.reset.drive d).reseek = false ∧ (State.reset.drive d).queue = [] ∧ (State.reset.drive d).doorLock = false ∧
    (State.reset.drive d).buffer = .empty ∧ State.reset.volume d = none) ∧
  State.reset.channel.holder = none ∧ State.reset.channel.lastGranted = 3 ∧
  (∀ c, (State.reset.context c).phase = .free ∧ (State.reset.context c).staging = List.replicate 512 0 ∧
    (State.reset.context c).halt = false) ∧
  State.reset.setup = ⟨6, 20, 12, 60, 2, 45, 8⟩

/-- The reset state is quiet, and it has every invariant that the statements below say each step keeps. -/
def Obligations.ResetIsQuietAndSound : Prop :=
  Quiet State.reset ∧ Sound State.reset ∧ HeadsSound State.reset ∧ ClaimsSound State.reset ∧ SpaceSound State.reset ∧
    WorkSound State.reset

/-- Every step keeps the state sound, and every step answers a next state. -/
def Obligations.EveryStepCompletesAndKeepsTheStateSound : Prop :=
  ∀ s : State, Sound s → ∃ t : State, step s = .next t ∧ Sound t

/-- Every step keeps heads, buffers and the channel sound: each drive's head status and buffer are among those its volume status admits
(R97), and a drive runs a job exactly where it holds the channel for one of that kind (R137). -/
def Obligations.HeadsStaySound : Prop :=
  ∀ s t : State, HeadsSound s → step s = .next t → HeadsSound t

/-- Every step keeps catalogues, handles, claims and copies in agreement: a handle is READ, EDIT or WAITING exactly where its entry
lists its desk so (R47, R48), and an entry is read or filled by exactly the copies in progress (R19, R154). -/
def Obligations.ClaimsStaySound : Prop :=
  ∀ s t : State, HeadsSound s → ClaimsSound s → step s = .next t → ClaimsSound t

/-- Every step keeps the space maps sound: a sector is marked used exactly where it is one of LSN 0 to 14 or held by one entry, the free
count is the number of sectors not marked (R75), and every entry keeps the relations of R18. -/
def Obligations.SpaceStaysSound : Prop :=
  ∀ s t : State, HeadsSound s → ClaimsSound s → SpaceSound s → step s = .next t → SpaceSound t

/-- Every step keeps the work sound: a queue is within its 12 items and its limits by kind, and empty in the statuses that keep none
(R106); a desk's line is busy exactly while a request is outstanding, and its work is that one request's (R178); a copy context has
the one item or wait of its phase. -/
def Obligations.WorkStaysSound : Prop :=
  ∀ s t : State, HeadsSound s → ClaimsSound s → WorkSound s → step s = .next t → WorkSound t

/-- HARDWARE_RESET returns every block to its reset values at once; a drive whose ready line is up is in SPIN-UP, any other in NONE.
Input levels, order choices and waiting commands stay (the model's choice, log entry 5). -/
def Obligations.HardwareResetReturnsEveryBlock : Prop :=
  ∀ s : State, ∃ t : State, exec .hardwareReset s = .next t ∧
    (∀ l, t.line l = { LineUnit.reset with deskReady := (s.line l).deskReady } ∧ t.desk l = Desk.reset) ∧
    (∀ d, t.volume d = none ∧
      ((s.drive d).ready = false → t.drive d = { Drive.reset with writeProtect := (s.drive d).writeProtect }) ∧
      ((s.drive d).ready = true →
        t.drive d =
          { Drive.reset with
            ready := true
            writeProtect := (s.drive d).writeProtect
            status := .spinUp
            doorLock := true
            protect := (s.drive d).writeProtect
            spinUpTimer := true })) ∧
    t.channel = ⟨none, 3⟩ ∧ (∀ c, t.context c = CopyContext.reset) ∧ t.setup = Setup.reset ∧ t.pending = s.pending ∧
    t.choices = s.choices

/-! ## Octets and bits -/

/-- Check octets computed by the rule make every field good, in the order of the lines and in that of the medium. -/
def Obligations.CheckOctetsMakeTheFieldGood : Prop :=
  ∀ os : List Byte, goodLine (os ++ checkLine os) = true ∧ goodMedium (os ++ checkMedium os) = true

/-- The octets of a frame are a good frame, and what is read from them is the frame. -/
def Obligations.FrameOctetsReadBack : Prop :=
  ∀ (kind tag : Byte) (body : List Byte), body.length ≤ 520 →
    goodFrame (frameOctets kind tag body) 0 = true ∧
      parseFrame (frameOctets kind tag body) = requestFrame kind tag body

/-- The bits of a frame's octets with zeros inserted are bits a receiver can gather, and they give the octets back, with no spare bit. -/
def Obligations.LineBitsReadBack : Prop :=
  ∀ os : List Byte,
    let bits := Received.bits (insertZeros 0 (os.flatMap bitsLow))
    couldGather bits = true ∧ gathered bits = (os, 0)

/-- A LIVE entry that R18 admits, rendered into a slot and loaded as the first slot, comes back with its recorded fields, no claims, a
clear marker and no binding yet, its sectors taken and its slug known; an entry in any other use comes back FREE. -/
def Obligations.RenderedSlotLoadsBack : Prop :=
  (∀ e : Entry, e.use = .live → slugWellFormed e.slug = true → e.extents.length ≤ 14 →
    e.extents.all extentInData = true → extentsApart 0 e.extents = true → e.length ≤ 96 → e.tail ≤ 512 →
    (e.tail = 0 ↔ e.length = 0) →
    loadSlot ⟨[], 0, []⟩ (slotOctets e) =
      ⟨[{ Entry.free with
          use := .live
          stage := e.stage
          slug := e.slug
          extents := e.extents
          tail := e.tail
          revision := e.revision
          lastWriter := e.lastWriter }], marksOf e.extents, [e.slug]⟩) ∧
  ∀ (e : Entry) (p : LoadProgress), e.use ≠ .live →
    loadSlot p (slotOctets e) = ⟨Entry.free :: p.entries, p.taken, p.slugs⟩

/-! ## Line events -/

/-- FRAME_END: a frame that ends while hunting, or with no bits, is only a flag; with the slot full it is discarded with OVERRUN; a
good one goes into the empty slot and brings a DOWN line up; one that is not good sets FRAME-ERROR on an up line alone. That an event
with no bits, or while hunting, is a flag alone is the model's choice (log entry 9). -/
def Obligations.FrameEndByItsCase : Prop :=
  ∀ (s : State) (l : LineNo) (os : List Byte) (spare : Nat),
    let flagged : LineUnit :=
      { s.line l with
        receiver := .inFrame
        silence := if (s.line l).state.isUp then some s.setup.deskSilence else (s.line l).silence }
    ((s.line l).receiver = .hunting ∨ (os = [] ∧ spare = 0) →
      exec (.frameEnd l (.octets os spare)) s = .next (s.setLine l flagged).settled) ∧
    ((s.line l).receiver = .inFrame → ¬(os = [] ∧ spare = 0) →
      ((s.line l).receiveSlot ≠ none →
        exec (.frameEnd l (.octets os spare)) s =
          .next (s.setLine l { flagged with flags := { flagged.flags with overrun := true } }).settled) ∧
      ((s.line l).receiveSlot = none → goodFrame os spare = true →
        ((s.line l).state ≠ .down →
          exec (.frameEnd l (.octets os spare)) s =
            .next (s.setLine l { flagged with receiveSlot := some ⟨parseFrame os, false⟩ }).settled) ∧
        ((s.line l).state = .down →
          exec (.frameEnd l (.octets os spare)) s =
            .next (s.setLine l
              { flagged with
                receiveSlot := some ⟨parseFrame os, false⟩
                state := .upIdle
                silence := some s.setup.deskSilence }).settled)) ∧
      ((s.line l).receiveSlot = none → goodFrame os spare = false →
        ((s.line l).state ≠ .down →
          exec (.frameEnd l (.octets os spare)) s =
            .next (s.setLine l { flagged with flags := { flagged.flags with frameError := true } }).settled) ∧
        ((s.line l).state = .down →
          exec (.frameEnd l (.octets os spare)) s = .next (s.setLine l flagged).settled)))

/-- FRAME_ABORT, FLAG_SEEN and DESK_READY_CHANGE change the receiver, the silence timer and the input level of their line, and nothing
else. FRAME_TOO_LONG in a frame makes the receiver hunt, and FRAME-ERROR is set on an up line alone, whether or not the receive slot is
full (the model's choice, log entry 9). FRAME_SENT empties the answer slot, and the pending answer moves in, or takes the oldest
notice off the queue. -/
def Obligations.LineEventsChangeTheirLine : Prop :=
  (∀ (s : State) (l : LineNo),
    exec (.frameAbort l) s = .next (s.setLine l { s.line l with receiver := .hunting }).settled ∧
    exec (.flagSeen l) s =
      .next (s.setLine l
        { s.line l with
          receiver := .inFrame
          silence := if (s.line l).state.isUp then some s.setup.deskSilence else (s.line l).silence }).settled ∧
    ∀ on, exec (.deskReadyChange l on) s = .next (s.setLine l { s.line l with deskReady := on }).settled) ∧
  (∀ (s : State) (l : LineNo), (s.line l).receiver = .inFrame →
    ((s.line l).state ≠ .down →
      exec (.frameTooLong l) s =
        .next (s.setLine l
          { s.line l with receiver := .hunting, flags := { (s.line l).flags with frameError := true } }).settled) ∧
    ((s.line l).state = .down →
      exec (.frameTooLong l) s = .next (s.setLine l { s.line l with receiver := .hunting }).settled)) ∧
  (∀ (s : State) (l : LineNo),
    ((s.line l).sending = some .answer →
      exec (.frameSent l) s =
        .next (s.setLine l
          { s.line l with answerSlot := (s.line l).pendingAnswer, pendingAnswer := none, sending := none }).settled) ∧
    ((s.line l).sending = some .notice →
      exec (.frameSent l) s =
        .next (s.setLine l { s.line l with notices := (s.line l).notices.tail, sending := none }).settled))

/-- SILENCE_TIMER_EXPIRY: the line is DOWN and empty, the desk's request record is empty, and its four handles are FREE; the setup
table and the waiting commands stay. Where the work was sound, every other desk is offered a GRANTED for each of its handles that was
WAITING and is EDIT now, in ascending number of the handle, and the outstanding request's work is treated as R181 states: a waiting
sector item is removed, a begun one is left over, a WRITE's with its data, and a served commit WRITE leaves the commit waiters; a
catalogue wait is withdrawn; a copy in progress is halted with no answer wanted, and one in COMMIT-WAIT is over; a FORMAT gets its halt
flag, acts on it at once in WAIT-CHANNEL(LAY), and goes on in its last LAY and in its mount; a RECOVER goes on. The closings of changed
handles may post CATALOGUE-WRITE items. -/
def Obligations.SilenceTakesTheLineDown : Prop :=
  ∀ (s : State) (l : LineNo), (s.line l).silence ≠ none →
    ∃ t : State, exec (.silenceTimerExpiry l) s = .next t.settled ∧
      t.line l =
        { s.line l with
          state := .down
          receiveSlot := none
          answerSlot := none
          pendingAnswer := none
          notices := []
          mask := BitVec.allOnes 9
          flags := ⟨false, false, false⟩
          silence := none
          receiver := .hunting
          sending := none } ∧
      (∀ h, t.handle l h = .free) ∧ (t.desk l).outstanding = none ∧ t.setup = s.setup ∧ t.pending = s.pending ∧
      (WorkSound s →
        (∀ m, m ≠ l → t.line m =
          (allHandles.filterMap fun h =>
            match s.handle m h, t.handle m h with
            | .waiting .., .edit d slot => some (Notice.granted h d slot)
            | _, _ => none).foldl LineUnit.takeNotice (s.line m)) ∧
        let others := fun (x : Drive) => x.queue.filter fun i => !i.isCatalogueWrite
        let left := (t.desk l).leftover
        ((s.desk l).outstanding = none → left = (s.desk l).leftover) ∧
        ((s.desk l).outstanding.map Outstanding.kind = some .read ∨ (s.desk l).outstanding.map Outstanding.kind = some .write →
          (left = if allDrives.any fun d => (s.drive d).queue.any fun i => i.sectorDesk == some l && i.begun then some .sectorItem
            else none) ∧
          ∀ d, others (t.drive d) =
              ((others (s.drive d)).filter fun i => !(i.sectorDesk == some l && !i.begun)).map
                (WorkItem.handData l (s.writeData l none)) ∧
            (t.drive d).buffer.commitWaiters = (s.drive d).buffer.commitWaiters.filter (· != l) ∧
            (t.drive d).buffer.records = (s.drive d).buffer.records) ∧
        ((s.desk l).outstanding.map Outstanding.kind = some .close →
          ∀ d, t.waitsAt d = (s.waitsAt d).filter (· != .desk l) ∧ others (t.drive d) = others (s.drive d)) ∧
        ((s.desk l).outstanding.map Outstanding.kind = some .copy → ∀ c, s.carries c l = true →
          ((s.context c).inProgress = true → t.context c = { s.context c with halt := true, wanted := false }) ∧
          ((s.context c).phase = .commitWait → t.context c = CopyContext.reset ∧
            ∀ d, t.waitsAt d = (s.waitsAt d).filter (· != .context c)) ∧
          ∀ d, others (t.drive d) = others (s.drive d)) ∧
        ((s.desk l).outstanding.map Outstanding.kind = some .format →
          ((∀ d, (s.drive d).status ≠ .formatting) → left = some .format) ∧
          ∀ d name serial position halt begun, (s.drive d).status = .formatting →
            (s.drive d).queue = [⟨.format name serial position halt, begun⟩] →
            let last := 154 ≤ position ∧ (s.drive d).head = .run .lay
            (last → (t.drive d).queue = (s.drive d).queue ∧ (t.drive d).head = (s.drive d).head ∧ left = some .format) ∧
            (¬last → (s.drive d).head = .wait .lay → (t.drive d).queue = [] ∧ (t.drive d).status = .foreign ∧
              (t.drive d).head = .unloaded ∧ (t.drive d).doorLock = false ∧ left = none) ∧
            (¬last → (s.drive d).head ≠ .wait .lay → (t.drive d).queue = [⟨.format name serial position true, begun⟩] ∧
              (t.drive d).status = .formatting ∧ (t.drive d).head = (s.drive d).head ∧ left = some .format)) ∧
        ((s.desk l).outstanding.map Outstanding.kind = some .recover → left = some .recover ∧
          ∀ d, (t.drive d).recover = (s.drive d).recover ∧ (t.drive d).status = (s.drive d).status ∧
            (t.drive d).head = (s.drive d).head))

/-- A notice offered to a line: not queued on a DOWN line or against the mask, dropped with NOTICE-LOST at a full queue, and otherwise
placed at the tail; a broadcast offers it to every line. A request that ends is answered into the answer slot, or as the pending answer
where that is full, with the flags as they stand; VOLUME-LOST and BROKEN hold the line, any other outcome makes it UP-IDLE. A
transmitter between frames on an up line with desk ready on begins the answer first, else the oldest notice; otherwise it begins
nothing. -/
def Obligations.AnswersAndNotices : Prop :=
  (∀ (x : LineUnit) (n : Notice),
    (x.state = .down → x.takeNotice n = x) ∧
    (x.state ≠ .down → x.mask.getLsbD (n.code - 1) = false → x.takeNotice n = x) ∧
    (x.state ≠ .down → x.mask.getLsbD (n.code - 1) = true → 6 ≤ x.notices.length →
      x.takeNotice n = { x with flags := { x.flags with noticeLost := true } }) ∧
    (x.state ≠ .down → x.mask.getLsbD (n.code - 1) = true → x.notices.length < 6 →
      x.takeNotice n = { x with notices := x.notices ++ [n] })) ∧
  (∀ (s : State) (n : Notice) (l : LineNo), (s.broadcast n).line l = (s.line l).takeNotice n) ∧
  (∀ (s : State) (l : LineNo) (oc : Outcome) (results : List Byte) (o : Outstanding),
    (s.desk l).outstanding = some o → (s.line l).state ≠ .down →
    let answer : Answer := ⟨o.tag, oc, (s.line l).flags.octet, results⟩
    let after : LineState := if oc = .volumeLost ∨ oc = .broken then .held else .upIdle
    ((s.endRequest l oc results).desk l).outstanding = none ∧
      ((s.line l).answerSlot = none →
        (s.endRequest l oc results).line l = { s.line l with state := after, answerSlot := some answer }) ∧
      ((s.line l).answerSlot ≠ none →
        (s.endRequest l oc results).line l = { s.line l with state := after, pendingAnswer := some answer })) ∧
  ∀ x : LineUnit,
    let free := x.sending = none ∧ x.state ≠ .down ∧ x.deskReady = true
    (free → x.answerSlot ≠ none → x.chooseFrame = { x with sending := some .answer }) ∧
    (free → x.answerSlot = none → x.notices ≠ [] → x.chooseFrame = { x with sending := some .notice }) ∧
    (¬free ∨ (x.answerSlot = none ∧ x.notices = []) → x.chooseFrame = x)

/-! ## The common checks -/

/-- A good frame that ends on a free line of a quiet part is taken at once, and the first common check that fails refuses it. -/
def Obligations.CommonChecksRefuseInOrder : Prop :=
  ∀ (s : State) (l : LineNo) (kind tag : Byte) (body : List Byte),
    Quiet s → LineFree s l → (s.line l).receiver = .inFrame → body.length ≤ 520 →
    let run := exec (.frameEnd l (.octets (frameOctets kind tag body) 0)) s
    let refused := fun oc => run = .next (((s.hears l kind tag body).reply l tag oc []).settledAfter 1)
    (isRequestKind kind = false → refused .unknown) ∧
    (isRequestKind kind = true → parseRequest (requestFrame kind tag body) = none → refused .malformed) ∧
    ∀ r, isRequestKind kind = true → parseRequest (requestFrame kind tag body) = some r →
      (r.supervisorOnly = true → l ≠ 0 → refused .notPermitted) ∧
      ((r.supervisorOnly = true → l = 0) → (s.line l).state = .held → r ≠ .clear → r ≠ .status → refused .held) ∧
      ((r.supervisorOnly = true → l = 0) → (s.line l).state = .upBusy → r ≠ .halt → r ≠ .status → refused .busy)

/-- A handle that is not in a state its request takes refuses it: BAD-HANDLE, or LOST for a LOST one. -/
def Obligations.HandleCheckRefuses : Prop :=
  ∀ (s : State) (l : LineNo) (tag b : Byte) (h : HandleNo), Ready s l → handleOperand b = some h →
    let refused := fun (i : Instr) (kind : Byte) (body : List Byte) =>
      (((s.handle l h = .free ∨ ∃ d slot, s.handle l h = .waiting d slot) →
        exec i s = .next (((s.hears l kind tag body).reply l tag .badHandle []).settledAfter 1)) ∧
      ((∃ d slot m, s.handle l h = .lost d slot m) →
        exec i s = .next (((s.hears l kind tag body).reply l tag .lost []).settledAfter 1)))
    let reading := fun (i : Instr) (kind : Byte) (body : List Byte) =>
      (∃ d slot, s.handle l h = .read d slot) →
        exec i s = .next (((s.hears l kind tag body).reply l tag .badHandle []).settledAfter 1)
    (∀ i, refused (.read l tag b i) 0x06 [b, i]) ∧
    (∀ d slug, driveOperand d ≠ none → slugWellFormed slug = true → refused (.copy l tag b d slug) 0x0B (b :: d :: slug)) ∧
    (∀ st, Stage.ofCode st ≠ none → refused (.stage l tag b st) 0x09 [b, st] ∧ reading (.stage l tag b st) 0x09 [b, st]) ∧
    (refused (.purge l tag b) 0x0A [b] ∧ reading (.purge l tag b) 0x0A [b]) ∧
    (∀ m tail, tail.toNat ≤ 512 →
      refused (.trim l tag b m tail) 0x08 ([b, m] ++ octets2 tail.toNat) ∧
        reading (.trim l tag b m tail) 0x08 ([b, m] ++ octets2 tail.toNat)) ∧
    (∀ i count commit data, flagOperand commit ≠ none → writeWf count data = true →
      refused (.write l tag b i count commit data) 0x07 (writeBody b i count commit data) ∧
        reading (.write l tag b i count commit data) 0x07 (writeBody b i count commit data)) ∧
    (s.handle l h = .free →
      exec (.close l tag b) s = .next (((s.hears l 0x04 tag [b]).reply l tag .badHandle []).settledAfter 1))

/-- A drive that is FAULTED refuses the requests that name it with DRIVE-FAULT, and a drive without a catalogue refuses those that
need one with NO-VOLUME. -/
def Obligations.VolumeChecksRefuse : Prop :=
  ∀ (s : State) (l : LineNo) (tag b : Byte) (d : DriveNo), Ready s l → driveOperand b = some d →
    let refused := fun (i : Instr) (kind : Byte) (body : List Byte) =>
      ((s.drive d).status = .faulted →
        exec i s = .next (((s.hears l kind tag body).reply l tag .driveFault []).settledAfter 1)) ∧
      ((s.drive d).status ≠ .faulted → s.volume d = none →
        exec i s = .next (((s.hears l kind tag body).reply l tag .noVolume []).settledAfter 1))
    (∀ slot, slotWf slot = true → refused (.list l tag b slot) 0x02 [b, slot]) ∧
    refused (.volume l tag b) 0x0F [b] ∧
    (∀ slug, slugWellFormed slug = true →
      refused (.find l tag b slug) 0x01 (b :: slug) ∧ refused (.create l tag b slug) 0x05 (b :: slug) ∧
        ∀ mode wait, flagWf mode = true → flagWf wait = true →
          refused (.openStory l tag b slug mode wait) 0x03 (b :: slug ++ [mode, wait])) ∧
    (l = 0 → ∀ slot, slotWf slot = true →
      refused (.drop l tag b slot) 0x1F [b, slot] ∧ refused (.breakClaim l tag b slot) 0x18 [b, slot])

/-! ## Story Table requests -/

/-- FIND reports the entry its slug resolves to, and LIST the first eight entries that are not FREE at or after the from-slot with the
slot to go on from; they change nothing but their line. -/
def Obligations.FindAndListReport : Prop :=
  (∀ (s : State) (l : LineNo) (tag b : Byte) (q : Option DriveNo) (slug : Slug) (d : DriveNo) (slot : SlotNo),
    Ready s l → qualifierOperand b = some q → slugWellFormed slug = true → s.resolve q slug = some (d, slot) →
    (s.drive d).status ≠ .faulted →
    exec (.find l tag b slug) s =
      .next (((s.hears l 0x01 tag (b :: slug)).reply l tag .done
        ([octet d, octet slot, (s.entry d slot).stage.code, octet (s.entry d slot).length] ++
          octets2 (s.entry d slot).tail ++ octets2 (s.entry d slot).revision.toNat ++
          [deskOctet (s.entry d slot).editHolder, octet (s.entry d slot).readerCount,
            octet (s.entry d slot).waiters.length, bindingOctet (s.entry d slot).bound])).settledAfter 1)) ∧
  (∀ (s : State) (l : LineNo) (tag b c : Byte) (d : DriveNo) (slot : SlotNo) (v : Volume),
    Ready s l → driveOperand b = some d → slotOperand c = some slot → (s.drive d).status ≠ .faulted →
    s.volume d = some v →
    let found := allSlots.filter fun k => decide (slot ≤ k) && !((v.entry k).use == .free)
    let next : Nat := if found.length ≤ 8 then 112 else ((found.take 8).getLast?.map fun k => k.val + 1).getD 112
    exec (.list l tag b c) s =
      .next (((s.hears l 0x02 tag [b, c]).reply l tag .done
        (octet (found.take 8).length :: (found.take 8).flatMap (fun k => (v.entry k).listRecord k) ++
          [octet next])).settledAfter 1))

/-- CREATE makes the lowest FREE slot LIVE and empty, binds it if its slug is unbound, gives the desk its edit claim through the lowest
FREE handle, and sets the stale mark. STAGE moves a story along a pair of R20, sets its marker and the stale mark. PURGE of a spiked
story nobody else uses, and DROP of an entry nobody uses, free its sectors, bind its slug anew, make the entry FREE and set the stale
mark; PURGE frees the handle. -/
def Obligations.CatalogueChanges : Prop :=
  (∀ (s : State) (l : LineNo) (tag b : Byte) (slug : Slug) (d : DriveNo) (h : HandleNo) (slot : SlotNo),
    Ready s l → driveOperand b = some d → slugWellFormed slug = true → (s.drive d).status ≠ .faulted →
    s.volume d ≠ none → (s.drive d).status ≠ .releasing → (s.drive d).protect = false → s.freeHandle l = some h →
    s.duplicate d slug = false → s.freeSlot d = some slot →
    let t := ((((s.hears l 0x05 tag (b :: slug)).onEntry d slot fun _ =>
      { Entry.free with use := .live, slug := slug, editHolder := some l }).bindNew d slot).setHandle l h
        (.edit d slot)).setStale d
    exec (.create l tag b slug) s =
      .next ((t.reply l tag .done
        [handleOctet h, octet slot, bindingOctet (t.entry d slot).bound]).settledAfter 1)) ∧
  (∀ (s : State) (l : LineNo) (tag b c : Byte) (h : HandleNo) (d : DriveNo) (slot : SlotNo) (st : Stage) (supervisor : Bool),
    Ready s l → handleOperand b = some h → Stage.ofCode c = some st → s.handle l h = .edit d slot →
    (s.drive d).status ≠ .faulted → stageMove (s.entry d slot).stage st = some supervisor →
    (supervisor = true → l = 0) →
    exec (.stage l tag b c) s =
      .next (((((s.hears l 0x09 tag [b, c]).onEntry d slot
        fun e => { e with stage := st, changed := true }).setStale d).reply l tag .done []).settledAfter 1)) ∧
  (∀ (s : State) (l : LineNo) (tag b : Byte) (h : HandleNo) (d : DriveNo) (slot : SlotNo),
    Ready s l → handleOperand b = some h → s.handle l h = .edit d slot → (s.drive d).status ≠ .faulted →
    (s.entry d slot).stage = .spiked → (s.entry d slot).usedByOther l = false → (s.entry d slot).copyReaders = 0 →
    exec (.purge l tag b) s =
      .next ((((((s.hears l 0x0A tag [b]).freeEntry d slot).setStale d).setHandle l h .free).reply l tag .done
        []).settledAfter 1)) ∧
  ∀ (s : State) (tag b c : Byte) (d : DriveNo) (slot : SlotNo),
    Ready s 0 → driveOperand b = some d → slotOperand c = some slot → (s.drive d).status ≠ .faulted →
    s.volume d ≠ none → (s.drive d).protect = false →
    ((∃ o, (s.entry d slot).use = .damaged o) ∨
      ((s.entry d slot).use = .live ∧ (s.entry d slot).claimed = false ∧ (s.entry d slot).copyReaders = 0)) →
    exec (.drop 0 tag b c) s =
      .next (((((s.hears 0 0x1F tag [b, c]).freeEntry d slot).setStale d).reply 0 tag .done []).settledAfter 1)

/-- Track 0 loads exactly where its label sector is not BAD and valid and none of its catalogue sectors is BAD. The volume then has
the name, serial and generation of the label, 112 entries with no claims, LSN 0 to 14 marked, a free count that is the number of
sectors not marked, and its cursor at 15. Its entries are those of the slots in ascending order: use 0 gives a FREE one; use 1 a
LIVE one, whose sectors and slug are taken, unless a condition of R27 holds; a DAMAGED one, which takes neither, comes of a slot
where one holds and of any other use. The bindings are then set: a LIVE entry is bound unless its slug is bound to another volume.
-/
def Obligations.LoadedVolumeAndItsBindings : Prop :=
  (∀ (label : SectorRecord) (sectors : List SectorRecord), sectors.length = 14 →
    (loadVolume (label :: sectors) = none ↔
      label.isBad = true ∨ label.octets.take 4 ≠ [0x45, 0x46, 0x38, 0x44] ∨ octetAt label.octets 4 ≠ 1 ∨
        ∃ r ∈ sectors, r.isBad = true) ∧
    ∀ v, loadVolume (label :: sectors) = some v →
      v.name = (label.octets.drop 5).take 8 ∧ v.serial.toNat = number ((label.octets.drop 13).take 2) ∧
        v.generation.toNat = number ((label.octets.drop 15).take 4) ∧ v.stale = false ∧ v.entries.length = 112 ∧
        (∀ e ∈ v.entries, e.editHolder = none ∧ e.waiters = [] ∧ e.readers = Vector.replicate 8 false ∧
          e.copyReaders = 0 ∧ e.changed = false ∧ e.bound = false) ∧
        (∀ n, n < 15 → v.marks.getLsbD n = true) ∧
        v.freeCount = (List.range 2310).countP (fun n => !v.marks.getLsbD n) ∧ v.cursor = 15 ∧
        v.entries = ((sectors.flatMap fun r => (List.range 8).map fun k =>
          (r.octets.drop (64 * k)).take 64).foldl loadSlot ⟨[], 0, []⟩).entries.reverse) ∧
  (∀ (p : LoadProgress) (slot : List Byte), slot.length = 64 →
    let slug := (slot.drop 2).take 12
    let count := (octetAt slot 14).toNat
    let extents := (List.range count).map fun k =>
      (⟨number ((slot.drop (20 + 3 * k)).take 2), (octetAt slot (22 + 3 * k)).toNat⟩ : Extent)
    let sectors := extents.flatMap Extent.sectors
    let tail := number ((slot.drop 16).take 2)
    let revision : Word16 := BitVec.ofNat 16 (number ((slot.drop 18).take 2))
    let damaged := octetAt slot 0 ≠ 1 ∨ goodMedium slot = false ∨ slugWellFormed slug = false ∨
      4 < (octetAt slot 1).toNat ∨ 14 < count ∨
      (∃ x ∈ extents, x.count = 0 ∨ x.start < 15 ∨ 2309 < x.start + x.count - 1) ∨ 96 < sectors.length ∨ 512 < tail ∨
      (tail = 0 ↔ sectors.length ≠ 0) ∨ (∃ n ∈ sectors, p.taken.getLsbD n = true) ∨ ¬sectors.Nodup ∨ slug ∈ p.slugs
    let q := loadSlot p slot
    (octetAt slot 0 = 0 → q = { p with entries := Entry.free :: p.entries }) ∧
    (octetAt slot 0 ≠ 0 → damaged →
      q = { p with
        entries := { Entry.free with use := .damaged (octetAt slot 1), slug := slug, revision := revision } :: p.entries }) ∧
    (octetAt slot 0 ≠ 0 → ¬damaged → ∃ stage, Stage.ofCode (octetAt slot 1) = some stage ∧
      q.entries =
        { Entry.free with
          use := .live
          stage := stage
          slug := slug
          extents := extents
          tail := tail
          revision := revision
          lastWriter := if h : (octetAt slot 15).toNat < 8 then some ⟨(octetAt slot 15).toNat, h⟩ else none } :: p.entries ∧
      q.slugs = slug :: p.slugs ∧ ∀ n : Fin 2310, q.taken.getLsbD n = (p.taken.getLsbD n || sectors.contains n.val))) ∧
  ∀ (s : State) (d : DriveNo) (v : Volume), s.volume d = some v → v.entries.length = 112 →
    (∀ e ∈ v.entries, e.bound = false) →
    (∀ a b : SlotNo, (v.entry a).use = .live → (v.entry b).use = .live → (v.entry a).slug = (v.entry b).slug → a = b) →
    ∀ slot : SlotNo, (s.bindLoaded d).entry d slot =
      { v.entry slot with bound := (v.entry slot).isLive && (s.bound (v.entry slot).slug).isNone }

/-- An entry that becomes FREE gives its sectors back, and where its slug was bound to it the slug is bound to the LIVE entry with that
slug on the lowest-numbered drive that has one. A volume that leaves: the drive has no catalogue, the desks' READ, EDIT and WAITING
handles on it are LOST with their modes, each such desk is offered one LOST naming them, the copies that use the drive end, and each
slug that was bound to it is bound to the LIVE entry with that slug on the lowest-numbered other drive that has one. -/
def Obligations.EntriesAndVolumesLeave : Prop :=
  (∀ (s : State) (d : DriveNo) (slot : SlotNo) (v : Volume), s.volume d = some v → slot.val < v.entries.length →
    let t := s.freeEntry d slot
    t.entry d slot = Entry.free ∧
      ∃ w, t.volume d = some w ∧ w.freeCount = v.freeCount + (v.entry slot).length ∧ w.cursor = v.cursor ∧
        (∀ n, n < 2310 → w.marks.getLsbD n =
          (v.marks.getLsbD n && !((v.entry slot).extents.any fun x => decide (x.start ≤ n ∧ n < x.start + x.count)))) ∧
        (∀ other, other ≠ slot → { w.entry other with bound := (v.entry other).bound } = v.entry other) ∧
        ((v.entry slot).isLive = true → (v.entry slot).bound = true → ∀ e k, t.liveSlot e (v.entry slot).slug = some k →
          (∀ f, f < e → t.liveSlot f (v.entry slot).slug = none) → (t.entry e k).bound = true)) ∧
  (∀ (s : State) (d : DriveNo) (slot : SlotNo) (slug : Slug),
    s.liveSlot d slug = some slot → (∀ e, e < d → s.liveSlot e slug = none) →
    s.promote slug = s.onEntry d slot fun e => { e with bound := true }) ∧
  (∀ (s : State) (slug : Slug), (∀ e, s.liveSlot e slug = none) → s.promote slug = s) ∧
  ∀ (s : State) (d : DriveNo),
    let t := s.leaveVolume d
    t.volume d = none ∧
      (∀ l h, t.handle l h =
        match s.handle l h with
        | .read e slot => if e = d then .lost e slot .read else .read e slot
        | .edit e slot => if e = d then .lost e slot .edit else .edit e slot
        | .waiting e slot => if e = d then .lost e slot .edit else .waiting e slot
        | x => x) ∧
      (∀ l, (s.loseVolumeHandles d).line l =
        if ∀ h, (s.handle l h).claimDrive ≠ some d then s.line l
        else (s.line l).takeNotice (.lost d (handleSet fun h => (s.handle l h).claimDrive == some d))) ∧
      (∀ c, (s.context c).uses d = true → t.context c = CopyContext.reset) ∧
      (∀ e, (t.drive e).status = (s.drive e).status ∧ (t.drive e).head = (s.drive e).head) ∧ t.setup = s.setup ∧
      ∀ slug e slot, s.boundSlot d slug ≠ none → t.liveSlot e slug = some slot →
        (∀ f, f < e → t.liveSlot f slug = none) → (t.entry e slot).bound = true

/-! ## Claim unit requests and events -/

/-- OPEN in mode READ adds the desk to the reader set and makes its lowest FREE handle READ, whatever holder, waiters and protection the
entry has. OPEN in mode EDIT makes the desk the edit holder where there is none, and puts it at the tail of the wait list, with a
timer of the length in force, where there is one and the wait flag is set; with the flag clear it is refused with CLAIMED. -/
def Obligations.OpenByMode : Prop :=
  (∀ (s : State) (l : LineNo) (tag b w : Byte) (q : Option DriveNo) (slug : Slug) (d : DriveNo) (slot : SlotNo)
    (h : HandleNo),
    Ready s l → qualifierOperand b = some q → slugWellFormed slug = true → flagWf w = true →
    s.resolve q slug = some (d, slot) → (s.drive d).status ≠ .faulted → (s.drive d).status ≠ .releasing →
    s.alreadyOpen l d slot = false → s.freeHandle l = some h →
    exec (.openStory l tag b slug 0 w) s =
      .next (((((s.hears l 0x03 tag (b :: slug ++ [0, w])).onEntry d slot fun e =>
        { e with readers := e.readers.set l true l.isLt }).setHandle l h (.read d slot)).reply l tag .done
          [handleOctet h, octet d, octet slot]).settledAfter 1)) ∧
  (∀ (s : State) (l : LineNo) (tag b w : Byte) (q : Option DriveNo) (slug : Slug) (d : DriveNo) (slot : SlotNo)
    (h : HandleNo),
    Ready s l → qualifierOperand b = some q → slugWellFormed slug = true → flagWf w = true →
    s.resolve q slug = some (d, slot) → (s.drive d).status ≠ .faulted → (s.drive d).status ≠ .releasing →
    s.alreadyOpen l d slot = false → s.freeHandle l = some h → (s.drive d).protect = false →
    let heard := s.hears l 0x03 tag (b :: slug ++ [1, w])
    ((s.entry d slot).editHolder = none →
      exec (.openStory l tag b slug 1 w) s =
        .next ((((heard.onEntry d slot fun e => { e with editHolder := some l }).setHandle l h (.edit d slot)).reply l tag
          .done [handleOctet h, octet d, octet slot]).settledAfter 1)) ∧
    ((s.entry d slot).editHolder ≠ none → w = 1 →
      exec (.openStory l tag b slug 1 w) s =
        .next ((((heard.onEntry d slot fun e =>
          { e with waiters := e.waiters ++ [⟨l, s.setup.claimWait⟩] }).setHandle l h (.waiting d slot)).reply l tag
            .queued [handleOctet h, octet d, octet slot]).settledAfter 1)) ∧
    ((s.entry d slot).editHolder ≠ none → w = 0 →
      exec (.openStory l tag b slug 1 w) s = .next ((heard.reply l tag .claimed []).settledAfter 1)))

/-- CLOSE of a READ, WAITING or LOST handle gives up what it holds and frees it. CLOSE of an EDIT handle whose entry's marker is clear
releases the claim, to no one or to the head waiter with GRANTED, frees the handle, and touches neither marker, revision, last writer
nor stale mark. CLOSE of one whose entry's marker is set commits: revision, last writer, marker, stale mark, release of the claim, a
FREE handle, and a catalogue wait that leaves the line busy; here with no waiter on the list and the drive not FAULTED. -/
def Obligations.CloseByHandle : Prop :=
  (∀ (s : State) (l : LineNo) (tag b : Byte) (h : HandleNo) (d : DriveNo) (slot : SlotNo),
    Ready s l → handleOperand b = some h →
    let heard := s.hears l 0x04 tag [b]
    let closed := fun (t : State) =>
      exec (.close l tag b) s = .next (((t.setHandle l h .free).reply l tag .done []).settledAfter 1)
    (s.handle l h = .read d slot →
      closed (heard.onEntry d slot fun e => { e with readers := e.readers.set l false l.isLt })) ∧
    (s.handle l h = .waiting d slot →
      closed (heard.onEntry d slot fun e => { e with waiters := e.waiters.filter fun w => w.desk != l })) ∧
    (∀ m, s.handle l h = .lost d slot m → closed heard)) ∧
  (∀ (s : State) (l : LineNo) (tag b : Byte) (h : HandleNo) (d : DriveNo) (slot : SlotNo),
    Ready s l → handleOperand b = some h → s.handle l h = .edit d slot → (s.entry d slot).changed = false →
    let heard := s.hears l 0x04 tag [b]
    let closed := fun (t : State) =>
      exec (.close l tag b) s = .next (((t.setHandle l h .free).reply l tag .done []).settledAfter 1)
    ((s.entry d slot).waiters = [] → closed (heard.onEntry d slot fun e => { e with editHolder := none })) ∧
    (∀ w rest k, (s.entry d slot).waiters = w :: rest → s.handleThat w.desk (.waiting d slot) = some k →
      closed (((heard.onEntry d slot fun e => { e with editHolder := some w.desk, waiters := rest }).setHandle w.desk k
        (.edit d slot)).notify w.desk (.granted k d slot)))) ∧
  (∀ (s : State) (l : LineNo) (tag b : Byte) (h : HandleNo) (d : DriveNo) (slot : SlotNo),
    Ready s l → handleOperand b = some h → s.handle l h = .edit d slot → (s.entry d slot).changed = true →
    (s.drive d).status ≠ .faulted → (s.entry d slot).waiters = [] →
    exec (.close l tag b) s =
      .next ((((((((s.hears l 0x04 tag [b]).onEntry d slot fun e =>
        { e with revision := e.revision + 1, lastWriter := some l, changed := false }).setStale d).onEntry d slot fun e =>
          { e with editHolder := none }).setHandle l h .free).beginRequest l .close tag).onVolume d fun v =>
            { v with nextRender := v.nextRender ++ [.desk l] }).settledAfter 1))

/-- BREAK makes the holder's handle LOST with BROKEN, deals with the holder's request, and releases the claim; the marker, revision
and last writer are not touched by it. That the supervisor's answer comes after these effects, its flags octet as they leave it, is the
model's choice (log entry 14). -/
def Obligations.BreakTakesTheClaim : Prop :=
  ∀ (s : State) (tag b c : Byte) (d : DriveNo) (slot : SlotNo) (m : LineNo) (k : HandleNo),
    Ready s 0 → driveOperand b = some d → slotOperand c = some slot → (s.drive d).status ≠ .faulted →
    s.volume d ≠ none → (s.entry d slot).use = .live → (s.entry d slot).editHolder = some m →
    s.handleThat m (.edit d slot) = some k →
    exec (.breakClaim 0 tag b c) s =
      .next (((((((s.hears 0 0x18 tag [b, c]).setHandle m k (.lost d slot .edit)).notify m (.broken k d slot)).breakRequest d m
        k).releaseClaim d slot).reply 0 tag .done []).settledAfter 1)

/-- WAIT_TIMER_EXPIRY takes the waiter off its list, frees its handle and sends EXPIRED; nothing else changes. -/
def Obligations.WaitExpires : Prop :=
  ∀ (s : State) (l : LineNo) (h : HandleNo) (d : DriveNo) (slot : SlotNo), s.handle l h = .waiting d slot →
    exec (.waitTimerExpiry l h) s =
      .next (((s.onEntry d slot fun e => { e with waiters := e.waiters.filter fun w => w.desk != l }).setHandle l h
        .free).notify l (.expired h d slot)).settled

/-- The parts of a release. The waiters of the volume are withdrawn: each WAITING handle on it is FREE, and its desk is offered
WITHDRAWN for each in ascending handle number. A forced release takes the claims: each READ and EDIT handle on it is LOST, its desk is
offered one LOST naming them, and every entry has no edit holder and no readers, its marker as it was. With no RELEASE item in its
queue, a drive whose release is forced is RELEASING, has no sector item left, and every copy that uses it has ended. -/
def Obligations.ForcedReleaseTakesTheClaims : Prop :=
  ∀ (s : State) (d : DriveNo),
    (∀ l h, (s.withdrawWaiters d).handle l h =
      match s.handle l h with
      | .waiting e slot => if e = d then .free else .waiting e slot
      | x => x) ∧
    (∀ l, (s.withdrawWaiters d).line l =
      (allHandles.filterMap fun h =>
        match s.handle l h with
        | .waiting e slot => if e = d then some (Notice.withdrawn h d slot) else none
        | _ => none).foldl LineUnit.takeNotice (s.line l)) ∧
    (∀ l h slot, s.handle l h = .waiting d slot → ∀ w ∈ ((s.withdrawWaiters d).entry d slot).waiters, w.desk ≠ l) ∧
    (∀ l h, (s.takeClaims d).handle l h =
      match s.handle l h with
      | .read e slot => if e = d then .lost e slot .read else .read e slot
      | .edit e slot => if e = d then .lost e slot .edit else .edit e slot
      | x => x) ∧
    (∀ l, (s.takeClaims d).line l =
      if ∀ h, (s.handle l h).openDrive ≠ some d then s.line l
      else (s.line l).takeNotice (.lost d (handleSet fun h => (s.handle l h).openDrive == some d))) ∧
    (∀ slot, (s.takeClaims d).entry d slot =
      { s.entry d slot with editHolder := none, readers := Vector.replicate 8 false }) ∧
    let t := s.forceRelease d
    (((s.drive d).queue.any WorkItem.isRelease = true → t = s) ∧
      ((s.drive d).queue.any WorkItem.isRelease = false →
        (t.drive d).status = .releasing ∧ (t.drive d).doorLock = true ∧
          (∀ i ∈ (t.drive d).queue, i.sectorDesk = none) ∧
          (∀ c, (s.context c).uses d = true → t.context c = CopyContext.reset) ∧
          (∀ l h slot, t.handle l h ≠ .read d slot ∧ t.handle l h ≠ .edit d slot ∧ t.handle l h ≠ .waiting d slot) ∧
          (∀ slot, (t.entry d slot).editHolder = none ∧ (t.entry d slot).readers = Vector.replicate 8 false) ∧
          (∀ l, (∃ i ∈ (s.drive d).queue, i.sectorDesk = some l) → (t.desk l).outstanding = none)))

/-! ## Space unit -/

/-- READ of an index of the story posts a SECTOR-READ item for the sector it maps to, and becomes outstanding. WRITE below the length
sets the tail where it is the last index, posts a SECTOR-WRITE item, then sets the marker and the stale mark, and becomes outstanding
with its data in the receive slot. WRITE at the length allocates one sector more, sets the tail, and then goes on as an overwrite
does. -/
def Obligations.ReadAndWritePostTheirItems : Prop :=
  (∀ (s : State) (l : LineNo) (tag b i : Byte) (h : HandleNo) (d : DriveNo) (slot : SlotNo) (lsn : Nat),
    Ready s l → handleOperand b = some h → (s.handle l h = .read d slot ∨ s.handle l h = .edit d slot) →
    (s.drive d).status ≠ .faulted → (s.entry d slot).lsn i.toNat = some lsn →
    exec (.read l tag b i) s =
      .next ((((s.hears l 0x06 tag [b, i]).post d (.sectorRead l h slot i.toNat lsn)).beginRequest l .read
        tag).settledAfter 1)) ∧
  (∀ (s : State) (l : LineNo) (tag b i c : Byte) (count : Word16) (data : List Byte) (commit : Bool) (h : HandleNo)
    (d : DriveNo) (slot : SlotNo) (lsn : Nat),
    Ready s l → handleOperand b = some h → flagOperand c = some commit → writeWf count data = true →
    s.handle l h = .edit d slot → (s.drive d).status ≠ .faulted → (s.drive d).protect = false →
    (s.entry d slot).stage.locked = false → (s.entry d slot).lsn i.toNat = some lsn →
    (count = 512 ∨ i.toNat + 1 = (s.entry d slot).length) →
    exec (.write l tag b i count c data) s =
      .next (((((((s.hears l 0x07 tag (writeBody b i count c data)).onEntry d slot fun e =>
        if i.toNat + 1 = e.length then { e with tail := count.toNat } else e).post d
          (.sectorWrite l h slot i.toNat lsn count.toNat commit none)).onEntry d slot fun e =>
            { e with changed := true }).setStale d).beginRequest l .write tag).settledAfter 1)) ∧
  (∀ (s : State) (l : LineNo) (tag b i c : Byte) (count : Word16) (data : List Byte) (commit : Bool) (h : HandleNo)
    (d : DriveNo) (slot : SlotNo) (v w : Volume),
    Ready s l → handleOperand b = some h → flagOperand c = some commit → writeWf count data = true →
    s.handle l h = .edit d slot → (s.drive d).status ≠ .faulted → (s.drive d).protect = false →
    s.volume d = some v → (v.entry slot).stage.locked = false → i.toNat = (v.entry slot).length →
    (i.toNat = 0 ∨ 512 ≤ (v.entry slot).tail) → i.toNat < 96 → v.allocateAppend slot = .ok w →
    let allocated := ((s.hears l 0x07 tag (writeBody b i count c data)).setVolume d (some w)).onEntry d slot
      fun e => { e with tail := count.toNat }
    exec (.write l tag b i count c data) s =
      .next (((((allocated.post d (.sectorWrite l h slot i.toNat (((allocated.entry d slot).lsn i.toNat).getD 0) count.toNat
        commit none)).onEntry d slot fun e => { e with changed := true }).setStale d).beginRequest l .write
          tag).settledAfter 1))

/-- TRIM of a story no copy reads, in COPY or EDIT, to a shorter length removes sectors from its end and sets the stale mark. A trim leaves
the story the new length, tail and a set marker, each kept index at the sector it had, frees the number of sectors removed, and moves
neither the cursor nor another entry. -/
def Obligations.TrimShortensTheStory : Prop :=
  (∀ (s : State) (l : LineNo) (tag b m : Byte) (tail : Word16) (h : HandleNo) (d : DriveNo) (slot : SlotNo),
    Ready s l → handleOperand b = some h → tail.toNat ≤ 512 → s.handle l h = .edit d slot →
    (s.drive d).status ≠ .faulted → (s.drive d).protect = false → (s.entry d slot).stage.locked = false →
    (s.entry d slot).copyReaders = 0 → m.toNat < (s.entry d slot).length → (m.toNat = 0 ↔ tail.toNat = 0) →
    exec (.trim l tag b m tail) s =
      .next (((((s.hears l 0x08 tag ([b, m] ++ octets2 tail.toNat)).onVolume d fun v =>
        v.trimEntry slot m.toNat tail.toNat).setStale d).reply l tag .done []).settledAfter 1)) ∧
  (∀ (v : Volume) (slot : SlotNo) (m tail : Nat), slot.val < v.entries.length → m ≤ (v.entry slot).length →
    let w := v.trimEntry slot m tail
    (w.entry slot).length = m ∧ (w.entry slot).tail = tail ∧ (w.entry slot).changed = true ∧
      (∀ i, i < m → (w.entry slot).lsn i = (v.entry slot).lsn i) ∧
      w.freeCount = v.freeCount + ((v.entry slot).length - m) ∧ w.cursor = v.cursor ∧
      ∀ other, other ≠ slot → w.entry other = v.entry other)

/-- An extension adds the sector after the last extent to it. -/
def Obligations.ExtensionGrowsTheLastExtent : Prop :=
  ∀ (v : Volume) (slot : SlotNo) (first : List Extent) (x : Extent),
    slot.val < v.entries.length → (v.entry slot).extents = first ++ [x] → x.start + x.count < 2310 →
    v.marks.getLsbD (x.start + x.count) = false → x.count < 96 →
    ∃ w, v.allocateAppend slot = .ok w ∧
      (∀ n, w.marks.getLsbD n = (v.marks.getLsbD n || decide (n = x.start + x.count))) ∧
      w.freeCount = v.freeCount - 1 ∧ (w.entry slot).extents = first ++ [⟨x.start, x.count + 1⟩] ∧
      (w.entry slot).length = (v.entry slot).length + 1 ∧
      (w.entry slot).extents.length = (v.entry slot).extents.length ∧ w.cursor = v.cursor

/-- A new extent starts at the free sector the search finds, where the last extent cannot be extended. -/
def Obligations.NewExtentAtTheCursor : Prop :=
  ∀ (v : Volume) (slot : SlotNo) (lsn : Nat),
    slot.val < v.entries.length → (v.entry slot).extents.length < 14 → v.cursor < 2310 →
    (∀ first x, (v.entry slot).extents = first ++ [x] →
      2310 ≤ x.start + x.count ∨ v.marks.getLsbD (x.start + x.count) = true ∨ 96 ≤ x.count) →
    searchFree v.marks (2310 - 15) v.cursor = some lsn →
    ∃ w, v.allocateAppend slot = .ok w ∧
      (∀ n, w.marks.getLsbD n = (v.marks.getLsbD n || decide (n = lsn))) ∧ w.freeCount = v.freeCount - 1 ∧
      (w.entry slot).extents = (v.entry slot).extents ++ [⟨lsn, 1⟩] ∧
      (w.entry slot).extents.length = (v.entry slot).extents.length + 1 ∧
      (w.entry slot).length = (v.entry slot).length + 1 ∧ w.cursor = if lsn = 2309 then 15 else lsn + 1

/-- The search finds the first sector from the cursor on that is not marked, going on at LSN 15 after LSN 2309, and none where the whole
data area is marked. A copy allocation takes the first `n` such sectors, grouped into runs of consecutive LSNs: it is refused with
VOLUME-FULL where fewer are free and with FRAGMENTED where there are more than 14 runs, and otherwise marks them, lowers the free
count by `n` and moves the cursor past the last one taken. -/
def Obligations.SearchAndCopyAllocation : Prop :=
  (∀ (marks : BitVec 2310) (cursor : Nat), 15 ≤ cursor → cursor < 2310 →
    let place := fun k => 15 + (cursor - 15 + k) % 2295
    (∀ k, k < 2295 → marks.getLsbD (place k) = false → (∀ j, j < k → marks.getLsbD (place j) = true) →
      searchFree marks 2295 cursor = some (place k)) ∧
    ((∀ k, k < 2295 → marks.getLsbD (place k) = true) → searchFree marks 2295 cursor = none)) ∧
  ∀ (v : Volume) (n : Nat), v.SpaceSound →
    let place := fun k => 15 + (v.cursor - 15 + k) % 2295
    let free := ((List.range 2295).map place).filter fun lsn => !v.marks.getLsbD lsn
    v.allocateCopy 0 = .ok ([], v) ∧
    (0 < n → v.freeCount < n → v.allocateCopy n = .error .volumeFull) ∧
    (0 < n → n ≤ v.freeCount →
      (14 < (runsOf (free.take n)).length → v.allocateCopy n = .error .fragmented) ∧
      ((runsOf (free.take n)).length ≤ 14 → ∃ w, v.allocateCopy n = .ok (runsOf (free.take n), w) ∧
        (∀ lsn, lsn < 2310 → w.marks.getLsbD lsn = (v.marks.getLsbD lsn || decide (lsn ∈ free.take n))) ∧
        w.freeCount = v.freeCount - n ∧ w.entries = v.entries ∧
        ∃ last, (free.take n).getLast? = some last ∧ w.cursor = if last = 2309 then 15 else last + 1)) ∧
    (runsOf (free.take n)).flatMap Extent.sectors = free.take n ∧
    ∀ xs : List Extent, (v.freeExtents xs).freeCount = v.freeCount + (xs.map Extent.count).sum ∧
      ∀ lsn, lsn < 2310 → (v.freeExtents xs).marks.getLsbD lsn =
        (v.marks.getLsbD lsn && !(xs.any fun x => decide (x.start ≤ lsn ∧ lsn < x.start + x.count)))

/-! ## Copy engine -/

/-- COPY of a story that has sectors gives the lowest FREE context the copy, allocates a FILLING destination in the lowest FREE slot,
counts the reader of the source, and posts the first COPY-READ item. -/
def Obligations.CopyIsTaken : Prop :=
  ∀ (s : State) (l : LineNo) (tag b e : Byte) (slug : Slug) (h : HandleNo) (d dest : DriveNo) (slot destSlot : SlotNo)
    (c : ContextNo) (v w : Volume) (extents : List Extent),
    Ready s l → handleOperand b = some h → driveOperand e = some dest → slugWellFormed slug = true →
    (s.handle l h = .read d slot ∨ s.handle l h = .edit d slot) → (s.drive d).status ≠ .faulted →
    s.freeContext = some c → (s.drive dest).status ≠ .faulted → s.volume dest = some v →
    (s.drive dest).status ≠ .releasing → (s.drive dest).protect = false → s.duplicate dest slug = false →
    s.freeSlot dest = some destSlot → v.allocateCopy (s.entry d slot).length = .ok (extents, w) →
    0 < (s.entry d slot).length →
    exec (.copy l tag b e slug) s =
      .next (((((((s.hears l 0x0B tag (b :: e :: slug)).onContext c fun x =>
        { x with
          phase := .readStep, desk := l, handle := h, sourceDrive := d, sourceSlot := slot, destDrive := dest
          destSlot := destSlot, length := (s.entry d slot).length, next := 0, halt := false, wanted := true }).setVolume dest
            (some (w.setEntry destSlot
              { Entry.free with
                use := .filling, slug := slug, stage := (s.entry d slot).stage, tail := (s.entry d slot).tail
                extents := extents }))).onEntry d slot fun y =>
                  { y with copyReaders := y.copyReaders + 1 }).beginRequest l .copy tag).postCopyRead c).settledAfter 1)

/-- The service of a COPY-READ puts the sector into the staging sector and posts the COPY-WRITE of the destination's sector for the
same index; a BAD record ends the copy with MEDIUM and a set halt flag ends it with HALTED. The service of a COPY-WRITE makes the
destination's record DIRTY with the staging sector, and goes on to the COPY-READ of the next index, ends as halted, or after the last
index completes the copy: the destination is LIVE with the desk as last writer, bound if its slug was unbound, the stale mark set, the
source's copy-reader count one less, and the context in COMMIT-WAIT with a catalogue wait. -/
def Obligations.CopyItemsAreServed : Prop :=
  ∀ (s : State) (d : DriveNo) (c : ContextNo) (slot : SlotNo) (index track k : Nat) (rs : List SectorRecord)
    (ws : List LineNo),
    (s.drive d).buffer = .opened k rs ws →
    let x := s.context c
    let t := s.onDrive d fun y => { y with queue := y.queue.tail }
    (x.phase = .readStep →
      let run := s.serve d (.copyRead c slot index track)
      ∀ lsn, (s.entry x.sourceDrive x.sourceSlot).lsn x.next = some lsn →
        (∀ cause, rs[lsn % 15]? = some (.bad cause) → run = t.endCopy none c .medium [cause.octet]) ∧
        ∀ os, rs[lsn % 15]? = some (.clean os) ∨ rs[lsn % 15]? = some (.dirty os) →
          let staged := t.onContext c fun y => { y with staging := os }
          (x.halt = true → run = staged.endCopy none c .halted []) ∧
          (x.halt = false → ∀ target, (s.entry x.destDrive x.destSlot).lsn x.next = some target →
            run = (staged.onContext c fun y => { y with phase := .writeStep }).post x.destDrive
              (.copyWrite c x.destSlot x.next (target / 15)))) ∧
    (x.phase = .writeStep →
      let run := s.serve d (.copyWrite c slot index track)
      ∀ lsn, (s.entry x.destDrive x.destSlot).lsn x.next = some lsn →
        let written := (t.onDrive d fun y =>
          { y with
            buffer := .opened k (rs.set (lsn % 15) (.dirty x.staging)) ws
            dirtyAge := if rs.countP SectorRecord.isDirty = 0 then some 0 else y.dirtyAge }).onContext c fun y =>
              { y with next := x.next + 1 }
        (x.halt = true → run = written.endCopy none c .halted []) ∧
        (x.halt = false → x.next + 1 ≠ x.length →
          ∀ source, (s.entry x.sourceDrive x.sourceSlot).lsn (x.next + 1) = some source →
            run = (written.onContext c fun y => { y with phase := .readStep }).post x.sourceDrive
              (.copyRead c x.sourceSlot (x.next + 1) (source / 15))) ∧
        (x.halt = false → x.next + 1 = x.length → (s.drive x.destDrive).status ≠ .faulted →
          let live := written.onEntry x.destDrive x.destSlot fun e => { e with use := .live, lastWriter := some x.desk }
          let bound := if (live.bound (live.entry x.destDrive x.destSlot).slug).isSome then live
            else live.onEntry x.destDrive x.destSlot fun e => { e with bound := true }
          run = ((((bound.setStale x.destDrive).onEntry x.sourceDrive x.sourceSlot fun e =>
            { e with copyReaders := e.copyReaders - 1 }).onContext c fun y => { y with phase := .commitWait }).onVolume
              x.destDrive fun v => { v with nextRender := v.nextRender ++ [.context c] })))

/-- A copy that ends early: its item leaves whichever queue holds it, its FILLING destination is freed and the stale mark set where
that volume stays, the source's copy-reader count falls by one, the context is FREE with its fields cleared, and the desk is
answered with the outcome where an answer is wanted. Ending the copies of a drive leaves none that uses it. A copy in COMMIT-WAIT is
answered with the outcome its catalogue wait is handed, DONE with drive and slot. -/
def Obligations.CopiesEnd : Prop :=
  ∀ (s : State) (c : ContextNo),
    let x := s.context c
    (∀ (leaving : Option DriveNo) (oc : Outcome) (results : List Byte),
      let t := s.endCopy leaving c oc results
      t.context c = CopyContext.reset ∧ (∀ b, b ≠ c → t.context b = s.context b) ∧
      (∀ d i, i ∈ (t.drive d).queue → i.copyContext ≠ some c) ∧
      (∀ d i, i.copyContext ≠ some c → i.work ≠ .catalogueWrite → (i ∈ (t.drive d).queue ↔ i ∈ (s.drive d).queue)) ∧
      (leaving ≠ some x.destDrive → ∀ v, s.volume x.destDrive = some v → x.destSlot.val < v.entries.length →
        (x.sourceDrive ≠ x.destDrive ∨ x.sourceSlot ≠ x.destSlot) → (s.entry x.destDrive x.destSlot).isLive = false →
        (t.entry x.destDrive x.destSlot).use = .free ∧ ∃ w, t.volume x.destDrive = some w ∧ w.stale = true ∧
          w.freeCount = v.freeCount + (s.entry x.destDrive x.destSlot).length) ∧
      (∀ v, s.volume x.sourceDrive = some v → x.sourceSlot.val < v.entries.length →
        (x.sourceDrive ≠ x.destDrive ∨ x.sourceSlot ≠ x.destSlot) →
        (t.entry x.sourceDrive x.sourceSlot).copyReaders = (s.entry x.sourceDrive x.sourceSlot).copyReaders - 1) ∧
      (∀ l, t.line l = if x.wanted then (s.endRequest x.desk oc results).line l else s.line l) ∧
      ∀ d, (t.drive d).status = (s.drive d).status ∧ (t.drive d).head = (s.drive d).head) ∧
    (∀ (leaving : Option DriveNo) (d : DriveNo) (oc : Outcome), x.uses d = true →
      (s.endCopiesOn leaving d oc).context c = CopyContext.reset) ∧
    ∀ oc, x.phase = .commitWait → s.handWaiter oc (.context c) =
      if x.wanted then
        (s.setContext c CopyContext.reset).endRequest x.desk oc
          (if oc = .done then [octet x.destDrive.val, octet x.destSlot.val] else [])
      else s.setContext c CopyContext.reset

/-! ## Dispatcher requests -/

/-- HALT on an idle line is answered IDLE. On a busy one it is not answered itself and empties the receive slot. A READ's waiting item
is removed and the READ answered HALTED; a copy in progress gets its halt flag; a FORMAT's item gets its halt flag, which is acted on at
once in WAIT-CHANNEL(LAY); and HALT is ignored for a begun READ, a WRITE, a CLOSE, a RECOVER, a copy in COMMIT-WAIT, and a FORMAT in
its last LAY or its mount. CLEAR makes a HELD line UP-IDLE with DONE, is answered IDLE on an idle or a DOWN one and refused with BUSY on
a busy one; it touches no flag and no handle. -/
def Obligations.HaltAndClear : Prop :=
  (∀ (s : State) (l : LineNo) (tag : Byte), Quiet s → LineFree s l →
    (((s.line l).state = .down ∨ (s.line l).state = .upIdle) → (s.desk l).outstanding = none →
      exec (.halt l tag) s = .next (((s.hears l 0x0C tag []).reply l tag .idle []).settledAfter 1)) ∧
    ((s.line l).state = .upBusy →
      let heard := (s.hears l 0x0C tag []).emptySlot l
      let run := exec (.halt l tag) s
      let ignored := run = .next (heard.settledAfter 1)
      let busyWith := fun kind => (s.desk l).outstanding.map Outstanding.kind = some kind
      (busyWith .read → (∃ d, (s.drive d).queue.any (fun i => i.waitingRead l) = true) →
        run =
          .next (((allDrives.foldl (fun t d => t.onDrive d fun x => x.removeItems fun i => i.waitingRead l)
            heard).endRequest l .halted []).settledAfter 1)) ∧
      (busyWith .read → (∀ d, (s.drive d).queue.any (fun i => i.waitingRead l) = false) → ignored) ∧
      (busyWith .write ∨ busyWith .close ∨ busyWith .recover → ignored) ∧
      (∀ c, busyWith .copy → s.carries c l = true → (∀ b, s.carries b l = true → b = c) →
        ((s.context c).inProgress = true →
          run = .next ((heard.setContext c { s.context c with halt := true }).settledAfter 1)) ∧
        ((s.context c).phase = .commitWait → ignored)) ∧
      (busyWith .format → (∀ d, (s.drive d).status ≠ .formatting) → ignored) ∧
      ∀ d name serial position halt begun, l = 0 → busyWith .format → (∀ e, (s.drive e).status = .formatting ↔ e = d) →
        (s.drive d).queue = [⟨.format name serial position halt, begun⟩] →
        let last := 154 ≤ position ∧ (s.drive d).head = .run .lay
        (last → ignored) ∧
        (¬last → (s.drive d).head = .wait .lay → run = .next (((heard.onDrive d fun x =>
          { x with
            status := .foreign, doorLock := false, head := .unloaded, buffer := .empty, motion := .still, goal := none
            queue := [] }).endRequest 0 .halted []).settledAfter 1)) ∧
        (¬last → (s.drive d).head ≠ .wait .lay → run = .next ((heard.onDrive d fun x =>
          { x with queue := [⟨.format name serial position true, begun⟩] }).settledAfter 1)))) ∧
  (∀ (s : State) (l : LineNo) (tag : Byte), Quiet s → LineFree s l →
    let heard := s.hears l 0x0D tag []
    ((s.line l).state = .held →
      exec (.clear l tag) s =
        .next (((heard.setLine l { heard.line l with state := .upIdle }).reply l tag .done []).settledAfter 1)) ∧
    ((s.line l).state = .upIdle ∨ (s.line l).state = .down →
      exec (.clear l tag) s = .next ((heard.reply l tag .idle []).settledAfter 1)) ∧
    ((s.line l).state = .upBusy →
      exec (.clear l tag) s = .next ((heard.reply l tag .busy []).settledAfter 1)))

/-- STATUS is answered on a line in any state with the drives, the channel and the contexts, and then the line's flags are cleared. VOLUME
reports the volume record, the free count, the counts of entries by use and the stale mark. MASK replaces the notice mask by the kinds
whose bits are set. -/
def Obligations.StatusVolumeAndMask : Prop :=
  (∀ (s : State) (l : LineNo) (tag : Byte), Quiet s → LineFree s l →
    exec (.status l tag) s =
      .next ((((s.hears l 0x0E tag []).reply l tag .done
        ((allDrives.flatMap fun d =>
            [(s.drive d).status.code, (s.drive d).head.code, octet (s.drive d).queue.length,
              flagOctet (s.drive d).protect, (match (s.drive d).fault with
                | none => 0
                | some f => f.cause.code)]) ++
          [(match s.channel.holder with
              | none => 255
              | some (d, _) => octet d),
            octet ((if (s.context 0).phase == .free then 0 else 1) + (if (s.context 1).phase == .free then 0 else 2))])).onLine
              l fun x => { x with flags := ⟨false, false, false⟩ }).settledAfter 1)) ∧
  (∀ (s : State) (l : LineNo) (tag b : Byte) (d : DriveNo) (v : Volume),
    Ready s l → driveOperand b = some d → (s.drive d).status ≠ .faulted → s.volume d = some v → v.name.length = 8 →
    exec (.volume l tag b) s =
      .next (((s.hears l 0x0F tag [b]).reply l tag .done
        (v.name ++ octets2 v.serial.toNat ++ octets4 v.generation.toNat ++ octets2 v.freeCount ++
          [octet (v.entries.countP fun e => e.use == .live), octet (v.entries.countP Entry.isDamaged),
            octet (v.entries.countP fun e => e.use == .filling), flagOctet v.stale])).settledAfter 1)) ∧
  (∀ (s : State) (l : LineNo) (tag : Byte) (m : Word16), Ready s l → m.toNat < 512 →
    exec (.mask l tag m) s =
      .next ((((s.hears l 0x10 tag (octets2 m.toNat)).onLine l fun x =>
        { x with mask := BitVec.ofNat 9 m.toNat }).reply l tag .done []).settledAfter 1))

/-- SETUP with every drive at rest puts each value, clamped to its range, in force at once and answers with the table; with a drive at
work it is refused with DRIVES-ACTIVE and changes nothing. -/
def Obligations.SetupClampsItsValues : Prop :=
  ∀ (s : State) (tag a b c e f k : Byte) (g : Word16), Ready s 0 →
    let clamped : Nat → Nat → Nat → Nat := fun low high n => if n < low then low else if high < n then high else n
    let table : Setup :=
      ⟨clamped 2 20 a.toNat, clamped 10 60 b.toNat, clamped 2 100 c.toNat, clamped 8 240 e.toNat, clamped 0 6 f.toNat,
        clamped 5 300 g.toNat, clamped 2 60 k.toNat⟩
    let heard := s.hears 0 0x1E tag (setupBody a b c e f g k)
    ((∀ d, (s.drive d).active = false) →
      exec (.setup 0 tag a b c e f g k) s =
        .next ((({ heard with setup := table } : State).reply 0 tag .done
          ([octet table.stepInterval, octet table.headSettle, octet table.unload, octet table.dirtyAge,
            octet table.readRetries] ++ octets2 table.claimWait ++ [octet table.deskSilence])).settledAfter 1)) ∧
    ((∃ d, (s.drive d).active = true) →
      exec (.setup 0 tag a b c e f g k) s = .next ((heard.reply 0 tag .drivesActive []).settledAfter 1))

/-! ## Drive requests -/

/-- RELEASE by volume status and force flag. That the answer comes after the withdrawals and losses it causes, its flags octet as they
leave it, is the model's choice (log entry 14). -/
def Obligations.ReleaseByStatus : Prop :=
  ∀ (s : State) (tag b c : Byte) (force : Bool) (d : DriveNo),
    Ready s 0 → driveOperand b = some d → flagOperand c = some force →
    let heard := s.hears 0 0x19 tag [b, c]
    let answered := fun (t : State) (oc : Outcome) => exec (.release 0 tag b c) s = .next ((t.reply 0 tag oc []).settledAfter 1)
    ((s.drive d).status = .mounted → force = false →
      answered (((heard.onDrive d fun x => { x with status := .releasing, doorLock := true }).withdrawWaiters d).notifyPending
        d) .done) ∧
    ((s.drive d).status = .mounted → force = true → answered (heard.forceRelease d) .done) ∧
    ((s.drive d).status = .releasing → force = true → answered (heard.forceRelease d) .done) ∧
    ((s.drive d).status = .releasing → force = false → answered heard .idle) ∧
    ((s.drive d).status = .faulted → answered heard .driveFault) ∧
    ((s.drive d).status = .none → answered heard .noVolume) ∧
    ((s.drive d).status = .spinUp ∨ (s.drive d).status = .mounting ∨ (s.drive d).status = .formatting →
      answered heard .inUse) ∧
    ((s.drive d).status = .foreign ∨ (s.drive d).status = .unlocked → answered heard .idle)

/-- MOUNT and RELEASE_BUTTON by volume status. -/
def Obligations.MountAndReleaseButton : Prop :=
  (∀ (s : State) (tag b : Byte) (d : DriveNo), Ready s 0 → driveOperand b = some d →
    let heard := s.hears 0 0x1A tag [b]
    let answered := fun (t : State) (oc : Outcome) => exec (.mount 0 tag b) s = .next ((t.reply 0 tag oc []).settledAfter 1)
    ((s.drive d).status = .unlocked ∨ (s.drive d).status = .foreign →
      answered (heard.onDrive d fun x =>
        { x with
          status := .spinUp, doorLock := true, protect := x.writeProtect, measurement := ⟨0, 0, false⟩
          spinUpTimer := true }) .done) ∧
    ((s.drive d).status = .none → answered heard .noVolume) ∧
    ((s.drive d).status = .faulted → answered heard .driveFault) ∧
    ((s.drive d).status = .spinUp ∨ (s.drive d).status = .mounting ∨ (s.drive d).status = .mounted ∨
      (s.drive d).status = .releasing ∨ (s.drive d).status = .formatting → answered heard .inUse)) ∧
  (∀ (s : State) (d : DriveNo),
    ((s.drive d).status = .mounted →
      exec (.releaseButton d) s =
        .next (((s.onDrive d fun x => { x with status := .releasing, doorLock := true }).withdrawWaiters d).notifyPending
          d).settled) ∧
    ((s.drive d).status = .unlocked ∨ (s.drive d).status = .foreign →
      exec (.releaseButton d) s =
        .next (s.onDrive d fun x =>
          { x with
            status := .spinUp, doorLock := true, protect := x.writeProtect, measurement := ⟨0, 0, false⟩
            spinUpTimer := true }).settled) ∧
    ((s.drive d).status ≠ .mounted → (s.drive d).status ≠ .unlocked → (s.drive d).status ≠ .foreign →
      exec (.releaseButton d) s = .next s.settled))

/-- FORMAT by volume status. FOREIGN or UNLOCKED and not protected: the drive is FORMATTING with its lock held, the FORMAT item at
position 0 begun, and the head is loaded for a seek to cylinder 0, from cylinder 0 too (log entry 13), or recalibrates where the
cylinder is unknown. MOUNTED with no handle, no copy, no item and its head at rest: the volume leaves first, with GONE and the count of
its DIRTY records. MOUNTED in use it is refused with IN-USE; a protected diskette refuses it with PROTECTED, and the other statuses
with NO-VOLUME, DRIVE-FAULT or IN-USE. -/
def Obligations.FormatIsTaken : Prop :=
  ∀ (s : State) (tag b : Byte) (name : List Byte) (serial : Word16) (d : DriveNo),
    Ready s 0 → driveOperand b = some d → nameWellFormed name = true →
    let heard := s.hears 0 0x1B tag (b :: name ++ octets2 serial.toNat)
    let run := exec (.format 0 tag b name serial) s
    let refused := fun oc => run = .next ((heard.reply 0 tag oc []).settledAfter 1)
    let used := (∃ l h, (s.handle l h).claimDrive = some d) ∨ (∃ c, (s.context c).uses d = true) ∨ (s.drive d).queue ≠ [] ∨
      ((s.drive d).head ≠ .opened ∧ (s.drive d).head ≠ .unloaded)
    let laying := fun (x : Drive) => x.status = .formatting ∧ x.doorLock = true ∧ x.buffer = .empty ∧
      x.queue = [⟨.format name serial 0 false, true⟩] ∧ x.head = .seek ∧ x.goal = some 0 ∧
      (∀ c, (s.drive d).cylinder = some c → x.cylinder = some c ∧
        x.motion = .seeking 0 c s.setup.stepInterval s.setup.headSettle) ∧
      ((s.drive d).cylinder = none → x.motion = .recalibrating s.setup.stepInterval s.setup.headSettle)
    ((s.drive d).status = .foreign ∨ (s.drive d).status = .unlocked → (s.drive d).protect = false → s.volume d = none →
      (s.drive d).head = .unloaded →
      ∃ t : State, run = .next (t.settledAfter 1) ∧ t = (heard.beginRequest 0 .format tag).setDrive d (t.drive d) ∧
        laying (t.drive d) ∧ (t.desk 0).outstanding = some ⟨.format, tag⟩) ∧
    (∀ v, (s.drive d).status = .mounted → ¬used → (s.drive d).protect = false → s.volume d = some v →
      ∃ t : State, run = .next (t.settledAfter 1) ∧ laying (t.drive d) ∧ t.volume d = none ∧
        (∀ l, t.line l = (((heard.beginRequest 0 .format tag).leaveVolume d).line l).takeNotice
          (.gone d (s.drive d).buffer.dirtyCount)) ∧
        (v.nextRender = [] → v.flushList = [] → (t.desk 0).outstanding = some ⟨.format, tag⟩)) ∧
    ((s.drive d).status = .mounted → used → refused .inUse) ∧
    ((s.drive d).status = .foreign ∨ (s.drive d).status = .unlocked ∨ ((s.drive d).status = .mounted ∧ ¬used) →
      (s.drive d).protect = true → refused .writeProtected) ∧
    ((s.drive d).status = .none → refused .noVolume) ∧ ((s.drive d).status = .faulted → refused .driveFault) ∧
    ((s.drive d).status = .spinUp ∨ (s.drive d).status = .mounting ∨ (s.drive d).status = .releasing ∨
      (s.drive d).status = .formatting → refused .inUse)

/-- RECOVER of a FAULTED drive begins its spin check and is outstanding; in NONE it is refused with NO-VOLUME and in any other status
with IDLE, and so it is where a RECOVER already runs on the drive (log entry 21). -/
def Obligations.RecoverBeginsItsSpinCheck : Prop :=
  ∀ (s : State) (tag b : Byte) (d : DriveNo), Ready s 0 → driveOperand b = some d →
    let heard := s.hears 0 0x1C tag [b]
    ((s.drive d).status = .faulted → (s.drive d).recover = none →
      exec (.recover 0 tag b) s =
        .next (((heard.onDrive d fun x =>
          { x with
            measurement := ⟨0, 0, false⟩, spinUpTimer := true, head := .unloaded
            recover := some .spinCheck }).beginRequest 0 .recover tag).settledAfter 1)) ∧
    ((s.drive d).status = .none →
      exec (.recover 0 tag b) s = .next ((heard.reply 0 tag .noVolume []).settledAfter 1)) ∧
    ((s.drive d).status ≠ .faulted ∨ (s.drive d).recover ≠ none → (s.drive d).status ≠ .none →
      exec (.recover 0 tag b) s = .next ((heard.reply 0 tag .idle []).settledAfter 1))

/-- DISCARD of a FAULTED diskette that is no volume unlocks it and clears the fault; of a faulted volume it makes the volume leave with
GONE and the count of its DIRTY records; in NONE it is refused with NO-VOLUME and in any other status with IDLE, and so it is where a
RECOVER runs on the drive (log entry 21). That the answer comes after LOST and GONE, its flags octet as they leave it, and LOST before
GONE, are the model's choices (log entries 14 and 23). -/
def Obligations.DiscardGivesUpTheDiskette : Prop :=
  ∀ (s : State) (tag b : Byte) (d : DriveNo), Ready s 0 → driveOperand b = some d →
    let heard := s.hears 0 0x1D tag [b]
    let answered := fun (t : State) (oc : Outcome) => exec (.discard 0 tag b) s = .next ((t.reply 0 tag oc []).settledAfter 1)
    (∀ cause, (s.drive d).status = .faulted → (s.drive d).recover = none → (s.drive d).fault = some ⟨cause, .noVolume⟩ →
      answered (heard.onDrive d fun x => { x with status := .unlocked, doorLock := false, fault := none }) .done) ∧
    (∀ cause, (s.drive d).status = .faulted → (s.drive d).recover = none → (s.drive d).fault = some ⟨cause, .mountedVolume⟩ →
      answered ((((heard.onDrive d fun x => { x with buffer := .empty }).leaveVolume d).onDrive d fun x =>
        { x with status := .unlocked, doorLock := false, fault := none }).broadcast
          (.gone d (s.drive d).buffer.dirtyCount)) .done) ∧
    ((s.drive d).status = .none → answered heard .noVolume) ∧
    ((s.drive d).status ≠ .faulted ∨ (s.drive d).recover ≠ none → (s.drive d).status ≠ .none → answered heard .idle)

/-- The end of a RECOVER's recalibration. With the sensor found and origin NO-VOLUME the diskette is FOREIGN and RECOVER is answered
DONE; with origin MOUNTED-VOLUME and nothing RETAINED the volume is MOUNTED again with the head unloaded, a stale mark posts its item,
MOUNTED is offered to every line and RECOVER is answered DONE; with a track RETAINED the drive seeks it and asks for a flush, and the
end of that flush makes the volume MOUNTED with the track OPEN. With the sensor not found the drive stays FAULTED with cause SEEK and
RECOVER is answered DRIVE-FAULT. That MOUNTED is offered before, and FAULT after, the answer is the model's choice (log entry 22). -/
def Obligations.RecoverCompletes : Prop :=
  ∀ (s : State) (d : DriveNo) (interval settle_ : Nat) (f : FaultRecord), (s.drive d).status = .faulted →
    (s.drive d).recover = some .running → (s.drive d).fault = some f →
    (((s.drive d).motion = .recalibrating interval settle_ →
      let found := exec (.recalibrationComplete d true) s
      (f.origin = .noVolume →
        found = .next ((s.onDrive d fun x =>
          { x with
            status := .foreign, doorLock := false, head := .unloaded, cylinder := some 0, fault := none, recover := none
            motion := .still, goal := none, buffer := .empty }).endRequest 0 .done []).settled) ∧
      (∀ v, f.origin = .mountedVolume → s.volume d = some v → (s.drive d).buffer = .empty →
        let mounted := s.onDrive d fun x =>
          { x with
            status := .mounted, doorLock := true, head := .unloaded, cylinder := some 0, fault := none, recover := none
            motion := .still, goal := none }
        let posted := if v.stale = true then mounted.post d .catalogueWrite else mounted
        (s.drive d).queue = [] → found = .next
          ((posted.broadcast (.mounted d v.serial v.name (s.drive d).protect)).endRequest 0 .done []).settled) ∧
      (∀ track rs, f.origin = .mountedVolume → (s.drive d).buffer = .retained track rs → (s.drive d).head = .seek →
        ∃ u : State, found = .next u.settled ∧ (u.drive d).cylinder = some 0 ∧ (u.drive d).goal = some track ∧
          (u.drive d).buffer = .retained track rs ∧ (u.drive d).status = .faulted ∧
          (track / 2 = 0 → (u.drive d).head = if s.channel.holder = none then .run .flush else .wait .flush) ∧
          (track / 2 ≠ 0 → (u.drive d).head = .seek ∧
            (u.drive d).motion = .seeking (track / 2) (track / 2) s.setup.stepInterval s.setup.headSettle)) ∧
      ∃ u : State, exec (.recalibrationComplete d false) s = .next u.settled ∧ (u.drive d).status = .faulted ∧
        (u.drive d).fault = some ⟨.seek, f.origin⟩ ∧ (u.drive d).cylinder = none ∧ (u.drive d).head = .unloaded ∧
        (u.drive d).recover = none ∧ (u.drive d).buffer = (s.drive d).buffer ∧
        ∀ l, u.line l = ((s.endRequest 0 .driveFault []).line l).takeNotice (.fault d .seek f.origin))) ∧
    ∀ track sector pulses header os rs, s.channel.holder = some (d, .flush track [sector] pulses) →
      headerSeen header (track % 2) = true → octetAt header.octets 1 = octet (track / 2) → track < 154 →
      (octetAt header.octets 3).toNat = sector → (s.drive d).buffer = .retained track rs →
      rs[sector - 1]? = some (.dirty os) →
      ∃ u : State, exec (.flushSectorWritten d header) s = .next u.settled ∧ (u.drive d).status = .mounted ∧
        (u.drive d).fault = none ∧ (u.drive d).recover = none ∧ (u.drive d).head = .opened ∧
        (u.drive d).buffer = .opened track (rs.set (sector - 1) (.clean os)) [] ∧
        (∀ j, u.channel.holder ≠ some (d, j)) ∧ (u.desk 0).outstanding = none

/-! ## Drive events -/

/-- READY_RISE in NONE: SPIN-UP with the lock held, the protect flag from the write-protect line, a cleared measurement and the timer
running; with the ready line up already it brings the level of the write-protect line alone (the model's choice, log entry 8). A period
is good from 161.7 to 171.7 ms: it adds to the good run up to 3 and clears the bad run; any other does the reverse; the first pulse
changes neither run. INDEX_PULSE with the third good period in SPIN-UP: the timer stops and the drive recalibrates in MOUNTING. -/
def Obligations.SpinUpMeasuresTheSpeed : Prop :=
  (∀ (s : State) (d : DriveNo) (p : Bool), (s.drive d).status = .none →
    exec (.readyRise d p) s =
      .next (s.onDrive d fun x =>
        { x with
          ready := true, writeProtect := p, status := .spinUp, doorLock := true, protect := p
          measurement := ⟨0, 0, false⟩, spinUpTimer := true }).settled) ∧
  (∀ (m : Measurement) (period : Nat),
    (m.seen = false → m.pulse period = { m with seen := true }) ∧
    (m.seen = true → 161700 ≤ period → period ≤ 171700 → m.pulse period = ⟨min 3 (m.good + 1), 0, true⟩) ∧
    (m.seen = true → (period < 161700 ∨ 171700 < period) → m.pulse period = ⟨0, min 3 (m.bad + 1), true⟩)) ∧
  (∀ (s : State) (d : DriveNo) (period : Nat) (r : Reading), (s.drive d).ready = true → (s.drive d).status = .spinUp →
    (s.drive d).measurement.seen = true → (s.drive d).measurement.good = 2 → 161700 ≤ period → period ≤ 171700 →
    ∃ t : State, exec (.indexPulse d period r) s = .next t.settled ∧ t = s.setDrive d (t.drive d) ∧
      (t.drive d).status = .mounting ∧ (t.drive d).doorLock = true ∧ (t.drive d).spinUpTimer = false ∧
      (t.drive d).head = .seek ∧ (t.drive d).measurement = ⟨3, 0, true⟩ ∧
      (t.drive d).motion = .recalibrating s.setup.stepInterval s.setup.headSettle) ∧
  (∀ (s : State) (d : DriveNo) (p : Bool), (s.drive d).status ≠ .none →
    exec (.readyRise d p) s = .next (s.onDrive d fun x => { x with writeProtect := p }).settled)

/-- READY_FALL in any status but NONE: the drive is in NONE with everything of the diskette gone, and holds no catalogue; the other
drives keep their statuses, and the setup table and the waiting commands stay. Where heads and work were sound: every desk whose work
stood on the drive (a sector item, a commit wait, FORMAT, RECOVER, a catalogue wait, a copy) is answered VOLUME-LOST; where a volume
leaves, its handles are LOST, each desk that had one is offered one LOST, and every desk GONE with the count of DIRTY records. The drive
unit's answers come before the notices (the model's choice, log entry 22), LOST between the catalogue waits' answers and the copies', and
GONE last or before what the catalogue's removal sends, by the order choice (log entry 2). -/
def Obligations.ReadyFallEmptiesTheDrive : Prop :=
  ∀ (s : State) (d : DriveNo), (s.drive d).status ≠ .none →
    ∃ t : State, exec (.readyFall d) s = .next t.settled ∧ (t.drive d).status = .none ∧ (t.drive d).head = .unloaded ∧
      (t.drive d).cylinder = none ∧ (t.drive d).buffer = .empty ∧ (t.drive d).doorLock = false ∧
      (t.drive d).spinUpTimer = false ∧ (t.drive d).measurement = ⟨0, 0, false⟩ ∧ (t.drive d).fault = none ∧
      (t.drive d).reseek = false ∧ (t.drive d).protect = false ∧ (t.drive d).queue = [] ∧ t.volume d = none ∧
      (∀ e, e ≠ d → (t.drive e).status = (s.drive e).status) ∧ t.setup = s.setup ∧ t.pending = s.pending ∧
      (HeadsSound s → WorkSound s →
        let answer := fun (l : LineNo) (ends : Bool) (x : LineUnit) => if ends = true then s.answered l .volumeLost [] x else x
        let unitDone := fun l => answer l (s.hasUnitWork l d) (s.withoutData l d)
        (∀ l, s.hasUnitWork l d = true → (t.desk l).outstanding = none) ∧
        (s.volume d = none → ∀ l, t.line l = unitDone l) ∧
        (s.volume d ≠ none →
          let told := fun (l : LineNo) (x : LineUnit) =>
            if ∀ h, (s.handle l h).claimDrive ≠ some d then x
            else x.takeNotice (.lost d (handleSet fun h => (s.handle l h).claimDrive == some d))
          let left := fun l x => answer l (s.hasCopy l d) (told l (answer l (s.hasWait l d) x))
          let gone := Notice.gone d ((s.drive d).buffer.records.countP SectorRecord.isDirty)
          (∀ l, t.line l =
            if s.popChoice.1 = 0 then (left l (unitDone l)).takeNotice gone else left l ((unitDone l).takeNotice gone)) ∧
          (∀ l, s.hasWait l d = true ∨ s.hasCopy l d = true → (t.desk l).outstanding = none) ∧
          (∀ c, (s.context c).uses d = true ∨ .context c ∈ s.waitsAt d → t.context c = CopyContext.reset) ∧
          ∀ l h, t.handle l h =
            if (s.handle l h).claimDrive = some d then (s.handle l h).makeLost else s.handle l h))

/-- INDEX_PULSE with the third bad period on a drive whose monitor is armed raises a SPEED fault, where the drive has no job or the
order choice takes the fault before the job's share of the pulse (R99 and R152 leave that order open, log entry 2). INDEX_PULSE with
the third good period in a RECOVER's spin check stops the timer and begins the recalibration. -/
def Obligations.BadPeriodsAndTheSpinCheck : Prop :=
  ∀ (s : State) (d : DriveNo) (period : Nat) (reading : Reading), (s.drive d).ready = true →
    (s.drive d).measurement.seen = true →
    let run := exec (.indexPulse d period reading) s
    (((s.drive d).status = .mounting ∨ (s.drive d).status = .mounted ∨ (s.drive d).status = .releasing ∨
        (s.drive d).status = .formatting ∨ (s.drive d).status = .foreign) →
      (s.drive d).measurement.bad = 2 → (period < 161700 ∨ 171700 < period) →
      s.popChoice.1 = 0 ∨ (∀ j, s.channel.holder ≠ some (d, j)) →
      ∃ u : State, run = .next u.settled ∧ (u.drive d).status = .faulted ∧
        (u.drive d).fault = some ⟨.speed, (s.drive d).status.origin⟩ ∧ (u.drive d).doorLock = true ∧
        (u.drive d).head = .unloaded ∧ (u.drive d).queue = [] ∧ (u.drive d).measurement = ⟨0, 3, true⟩ ∧
        u.setup = s.setup) ∧
    ((s.drive d).status = .faulted → (s.drive d).recover = some .spinCheck → (s.drive d).measurement.good = 2 →
      161700 ≤ period → period ≤ 171700 →
      ∃ u : State, run = .next u.settled ∧ u = s.setDrive d (u.drive d) ∧ (u.drive d).status = .faulted ∧
        (u.drive d).recover = some .running ∧ (u.drive d).spinUpTimer = false ∧
        (u.drive d).measurement = ⟨3, 0, true⟩ ∧ (u.drive d).head = .seek ∧
        (u.drive d).motion = .recalibrating s.setup.stepInterval s.setup.headSettle ∧
        (u.drive d).buffer = (s.drive d).buffer ∧ (u.drive d).fault = (s.drive d).fault)

/-- INDEX_PULSE with a good period on a drive that FILLs: the first pulse begins the first revolution; the pulse that ends a later
revolution completes the FILL where every sector is good or the retries are used up, and begins a retry otherwise; headers seen of
which none names the expected cylinder, in the first revolution, make the drive recalibrate and set its reseek mark, and raise a SEEK
fault where the mark is set. A completed FILL opens the track with a record for each sector: CLEAN where a revolution read it good,
BAD with the cause of its last failed reading, or BAD with MISSING. -/
def Obligations.FillRevolutions : Prop :=
  ∀ (s : State) (d : DriveNo) (period : Nat) (reading : Reading) (track retries n : Nat) (rs : List SectorResult),
    (s.drive d).ready = true → (s.drive d).measurement.seen = true → 161700 ≤ period → period ≤ 171700 →
    (s.drive d).status = .mounting ∨ (s.drive d).status = .mounted ∨ (s.drive d).status = .releasing →
    let t := s.ticked d period
    let run := exec (.indexPulse d period reading) s
    let seen := (sectorFrames reading).filter fun f => headerSeen f.header (track % 2)
    let matching := seen.filter fun f => decide ((octetAt f.header.octets 1).toNat = track / 2)
    let results := revolutionResults matching rs
    let mismatch := n = 0 ∧ seen ≠ [] ∧ matching = []
    let done := (∀ r ∈ results, ∃ os, r = .good os) ∨ retries ≤ n
    (s.channel.holder = some (d, .fill track retries 0 rs) →
      run = .next (State.settled { t with channel := { t.channel with holder := some (d, .fill track retries 1 rs) } })) ∧
    (s.channel.holder = some (d, .fill track retries (n + 1) rs) → ¬mismatch → ¬done →
      run = .next (State.settled { t with channel := { t.channel with holder := some (d, .fill track retries (n + 2) results) } })) ∧
    (s.channel.holder = some (d, .fill track retries (n + 1) rs) → ¬mismatch → done → (s.drive d).status ≠ .mounting →
      ∃ u : State, run = .next u.settled ∧ (u.drive d).head = .opened ∧ (u.drive d).reseek = false ∧
        (u.drive d).buffer = .opened track (results.map fun r =>
          match r with
          | .good os => .clean os
          | .bad cause => .bad cause
          | .unread => .bad .missing) [] ∧
        (u.drive d).status = (s.drive d).status ∧ (u.drive d).cylinder = (s.drive d).cylinder ∧
        (∀ j, u.channel.holder ≠ some (d, j)) ∧ (∀ e, e ≠ d → (u.drive e).buffer = (s.drive e).buffer) ∧
        u.setup = s.setup ∧ u.pending = s.pending) ∧
    (s.channel.holder = some (d, .fill track retries (n + 1) rs) → mismatch → (s.drive d).reseek = false →
      ∃ u : State, run = .next u.settled ∧ (u.drive d).reseek = true ∧ (u.drive d).head = .seek ∧
        (u.drive d).motion = .recalibrating s.setup.stepInterval s.setup.headSettle ∧
        (u.drive d).goal = (s.drive d).goal ∧ (u.drive d).status = (s.drive d).status ∧
        (u.drive d).buffer = (s.drive d).buffer ∧ (∀ j, u.channel.holder ≠ some (d, j)) ∧ u.setup = s.setup) ∧
    (s.channel.holder = some (d, .fill track retries (n + 1) rs) → mismatch → (s.drive d).reseek = true →
      ∃ u : State, run = .next u.settled ∧ (u.drive d).status = .faulted ∧
        (u.drive d).fault = some ⟨.seek, (s.drive d).status.origin⟩ ∧ (u.drive d).cylinder = none ∧
        (u.drive d).reseek = false ∧ (u.drive d).head = .unloaded ∧ ∀ j, u.channel.holder ≠ some (d, j)) ∧
    (rs.length = 15 → ∀ k, k < 15 → ∀ r, rs[k]? = some r →
      (∀ os, r = .good os → results[k]? = some r) ∧
      ((∀ os, r ≠ .good os) → (∀ f ∈ matching, (octetAt f.header.octets 3).toNat ≠ k + 1) → results[k]? = some r) ∧
      ((∀ os, r ≠ .good os) → ∀ before f after, matching = before ++ f :: after →
        (octetAt f.header.octets 3).toNat = k + 1 → (∀ g ∈ before, (octetAt g.header.octets 3).toNat ≠ k + 1) →
        results[k]? = some (dataResult f.data)))

/-- The pulse that completes the FILL of track 0 in MOUNTING makes the mount load: a track that loads gives a MOUNTED volume with the
head OPEN on it, its entries' slugs bound and MOUNTED offered to every line; one that does not gives FOREIGN. A FORMAT that waits for
it is answered DONE or MEDIUM; that MOUNTED is offered before that answer is the model's choice (log entry 22). -/
def Obligations.MountLoadByTrackZero : Prop :=
  ∀ (s : State) (d : DriveNo) (period : Nat) (reading : Reading) (retries n : Nat) (rs : List SectorResult),
    (s.drive d).ready = true → (s.drive d).measurement.seen = true → 161700 ≤ period → period ≤ 171700 →
    (s.drive d).status = .mounting → s.channel.holder = some (d, .fill 0 retries (n + 1) rs) →
    let seen := (sectorFrames reading).filter fun f => headerSeen f.header 0
    let matching := seen.filter fun f => decide ((octetAt f.header.octets 1).toNat = 0)
    let results := revolutionResults matching rs
    let records := results.map SectorResult.record
    ¬(n = 0 ∧ seen ≠ [] ∧ matching = []) → ((∀ r ∈ results, ∃ os, r = .good os) ∨ retries ≤ n) →
    let answered := fun (t : State) (oc : Outcome) => if (s.drive d).formatMount then t.endRequest 0 oc [] else t
    ∃ u : State, exec (.indexPulse d period reading) s = .next u.settled ∧ (u.drive d).formatMount = false ∧
      (∀ j, u.channel.holder ≠ some (d, j)) ∧
      (loadVolume records = none →
        (u.drive d).status = .foreign ∧ (u.drive d).head = .unloaded ∧ (u.drive d).buffer = .empty ∧
          (u.drive d).doorLock = false ∧ u.volume d = s.volume d ∧ ∀ l, u.line l = (answered s .medium).line l) ∧
      ∀ v, loadVolume records = some v →
        (u.drive d).status = .mounted ∧ (u.drive d).head = .opened ∧ (u.drive d).buffer = .opened 0 records [] ∧
          (u.drive d).doorLock = true ∧ u.volume d = ((s.setVolume d (some v)).bindLoaded d).volume d ∧
          ∀ l, u.line l = (answered (s.broadcast (.mounted d v.serial v.name (s.drive d).protect)) .done).line l

/-- INDEX_PULSE with a good period on a drive that FLUSHes or LAYs. FLUSH: the first pulse after the grant is counted, and the second
raises a WRITE fault. LAY: the first pulse opens the gate and the output carries the track of the FORMAT item's position; the next one
closes the revolution, and the drive goes to the next position, acts on the halt flag, or after position 154 begins the mount that
ends the FORMAT. That `writeData` holds the burst without its end gap while the gate is open, and with the closing pulse's period from
then on, is the model's record of it (log entry 7). -/
def Obligations.FlushAndLayRevolutions : Prop :=
  ∀ (s : State) (d : DriveNo) (period : Nat) (reading : Reading), (s.drive d).ready = true →
    (s.drive d).measurement.seen = true → 161700 ≤ period → period ≤ 171700 →
    let t := s.ticked d period
    let run := exec (.indexPulse d period reading) s
    (∀ track left, ((s.drive d).status = .mounted ∨ (s.drive d).status = .releasing) →
      (s.channel.holder = some (d, .flush track left 0) →
        run = .next (State.settled { t with channel := { t.channel with holder := some (d, .flush track left 1) } })) ∧
      (s.channel.holder = some (d, .flush track left 1) →
        ∃ u : State, run = .next u.settled ∧ (u.drive d).status = .faulted ∧
          (u.drive d).fault = some ⟨.write, .mountedVolume⟩ ∧ (u.drive d).head = .unloaded ∧ (u.drive d).queue = [] ∧
          (∀ j, u.channel.holder ≠ some (d, j)) ∧
          ∀ k rs ws, (s.drive d).buffer = .opened k rs ws →
            (u.drive d).buffer = if rs.countP SectorRecord.isDirty = 0 then .empty else .retained k rs)) ∧
    (∀ track name serial position halt, (s.drive d).status = .formatting →
      (s.drive d).queue = [⟨.format name serial position halt, true⟩] →
      (s.channel.holder = some (d, .lay track false) →
        run = .next (State.settled { t.onDrive d fun x =>
            { x with writeData := some (.lay track (formatContents name serial position) none) } with
          channel := { t.channel with holder := some (d, .lay track true) } })) ∧
      (s.channel.holder = some (d, .lay track true) →
        ∃ u : State, run = .next u.settled ∧ u.channel.holder ≠ some (d, .lay track true) ∧
          (u.drive d).writeData = some (.lay track (formatContents name serial position) (some period)) ∧
          let target := if position + 1 = 154 then 0 else position + 1
          (position < 154 → halt = false → (u.drive d).queue = [⟨.format name serial (position + 1) false, true⟩] ∧
            (u.drive d).status = .formatting ∧ (u.drive d).goal = some target ∧
            (∀ c, (s.drive d).cylinder = some c →
              (c = target / 2 → (u.drive d).head = .wait .lay ∨ (u.drive d).head = .run .lay) ∧
              (c ≠ target / 2 → (u.drive d).head = .seek ∧ (u.drive d).motion =
                .seeking (target / 2) (max c (target / 2) - min c (target / 2)) s.setup.stepInterval s.setup.headSettle))) ∧
          (position < 154 → halt = true → (u.drive d).queue = [] ∧ (u.drive d).status = .foreign ∧
            (u.drive d).head = .unloaded ∧ (u.drive d).doorLock = false ∧
            ∀ l, u.line l = (s.endRequest 0 .halted []).line l) ∧
          (position = 154 → (u.drive d).queue = [] ∧ (u.drive d).status = .mounting ∧ (u.drive d).goal = some 0 ∧
            (u.drive d).formatMount = true ∧
            ((u.drive d).head = .wait .fill ∨ (u.drive d).head = .run .fill) ∧ ∀ l, u.line l = s.line l)))

/-- INDEX_PULSE with a good period on a served drive with its track OPEN, no job and an empty queue: the dirty age and the unload count
rise by one; a dirty age at its setting makes a flush, and otherwise an unload count at its setting unloads the drive, at once or
after a flush. That the dirty age is compared first is the model's choice (log entry 11). -/
def Obligations.IdleRevolutions : Prop :=
  ∀ (s : State) (d : DriveNo) (period : Nat) (reading : Reading), (s.drive d).ready = true →
    (s.drive d).measurement.seen = true → 161700 ≤ period → period ≤ 171700 →
    (s.drive d).status = .mounted ∨ (s.drive d).status = .releasing → (s.drive d).head = .opened → (s.drive d).queue = [] →
    (∀ j, s.channel.holder ≠ some (d, j)) →
    let run := exec (.indexPulse d period reading) s
    let dirty := 0 < (s.drive d).buffer.dirtyCount
    let t := s.onDrive d fun x =>
      { x with
        measurement := ⟨min 3 (x.measurement.good + 1), 0, true⟩
        unloadCount := x.unloadCount.map fun n => n + 1
        dirtyAge := if 0 < x.buffer.dirtyCount then x.dirtyAge.map fun n => n + 1 else x.dirtyAge }
    let old := ∃ n, (s.drive d).dirtyAge = some n ∧ s.setup.dirtyAge ≤ n + 1
    let spent := ∃ n, (s.drive d).unloadCount = some n ∧ s.setup.unload ≤ n + 1
    (dirty → old → run = .next (t.ask d .flush).settled) ∧
    (¬(dirty ∧ old) → spent → ¬dirty →
      run = .next (t.onDrive d fun x =>
        { x with head := .unloaded, buffer := .empty, dirtyAge := none, unloadCount := none }).settled) ∧
    (¬(dirty ∧ old) → spent → dirty →
      run = .next ((t.onDrive d fun x => { x with unloading := true }).ask d .flush).settled) ∧
    (¬(dirty ∧ old) → ¬spent → run = .next t.settled)

/-- INDEX_TIMEOUT on an armed monitor, SPIN_UP_TIMER_EXPIRY in SPIN-UP, and WRITE_FAULT_LINE in FLUSH or LAY raise their faults: the
drive is FAULTED with the cause and the origin of its status, its lock held, its head unloaded, its queue empty, and its buffer RETAINED
where a record is DIRTY and EMPTY otherwise; the other drives keep their statuses, and the setup table stays. Where heads and work were
sound: every desk whose work stood on the drive is answered, a commit waiter WRITE-FAULT and any other DRIVE-FAULT, no catalogue wait is
left, the copies that use the drive are over, and FAULT with cause and origin is offered to every line. That the answers come before FAULT
is the model's choice (log entry 22). -/
def Obligations.FaultEventsFaultTheDrive : Prop :=
  ∀ (s : State) (d : DriveNo),
    let faults := fun (i : Instr) (cause : FaultCause) =>
      ∃ t : State, exec i s = .next t.settled ∧ (t.drive d).status = .faulted ∧
        (t.drive d).fault = some ⟨cause, (s.drive d).status.origin⟩ ∧ (t.drive d).doorLock = true ∧
        (t.drive d).head = .unloaded ∧ (t.drive d).queue = [] ∧ (t.drive d).unloadCount = none ∧
        (t.drive d).dirtyAge = none ∧ (t.drive d).reseek = false ∧
        (∀ e, e ≠ d → (t.drive e).status = (s.drive e).status) ∧ t.setup = s.setup ∧ t.pending = s.pending ∧
        (∀ track rs ws, (s.drive d).buffer = .opened track rs ws →
          (t.drive d).buffer = if rs.countP SectorRecord.isDirty = 0 then .empty else .retained track rs) ∧
        (HeadsSound s → WorkSound s →
          let ends := fun l => s.hasUnitWork l d = true ∨ s.hasWait l d = true ∨ s.hasCopy l d = true
          let outcome := fun l => if l ∈ (s.drive d).buffer.commitWaiters then Outcome.writeFault else .driveFault
          let notice := Notice.fault d cause (s.drive d).status.origin
          (∀ l, ends l → t.line l = (s.answered l (outcome l) [] (s.withoutData l d)).takeNotice notice ∧
            (t.desk l).outstanding = none) ∧
          (∀ l, ¬ends l → t.line l = (s.line l).takeNotice notice) ∧ t.waitsAt d = [] ∧
          ∀ c, (s.context c).uses d = true ∨ .context c ∈ s.waitsAt d → t.context c = CopyContext.reset)
    ((s.drive d).status = .mounting ∨ (s.drive d).status = .mounted ∨ (s.drive d).status = .releasing ∨
      (s.drive d).status = .formatting ∨ (s.drive d).status = .foreign → faults (.indexTimeout d) .speed) ∧
    ((s.drive d).status = .spinUp → (s.drive d).spinUpTimer = true → faults (.spinUpTimerExpiry d) .speed) ∧
    ((s.drive d).status = .mounted ∨ (s.drive d).status = .releasing → (s.drive d).head = .run .flush →
      faults (.writeFaultLine d) .write) ∧
    ((s.drive d).status = .formatting → (s.drive d).head = .run .lay → faults (.writeFaultLine d) .write)

/-- A drive seeks a track: by a recalibration first where its cylinder is unknown, by as many steps as the cylinders differ, and not at all
with its head loaded on the cylinder; where it arrives it asks for the channel. SEEK_COMPLETE on a served drive: the cylinder is the
target, and the drive asks for the channel to fill the track it moves to; with the channel free it is granted at once, and otherwise it
waits. RECALIBRATION_COMPLETE in MOUNTING: with the sensor found the drive is on cylinder 0 and fills track 0 as soon as it has the
channel; not found, it is FAULTED with cause SEEK and origin NO-VOLUME, its cylinder unknown. -/
def Obligations.HeadMovements : Prop :=
  (∀ (s : State) (d : DriveNo) (track : Nat),
    ((s.drive d).cylinder = none →
      s.seekTrack d track = s.onDrive d fun x =>
        { x with
          goal := some track, head := .seek, unloadCount := none
          motion := .recalibrating s.setup.stepInterval s.setup.headSettle }) ∧
    (∀ c, (s.drive d).cylinder = some c → (s.drive d).head = .unloaded ∨ c ≠ track / 2 →
      s.seekTrack d track = s.onDrive d fun x =>
        { x with
          goal := some track, head := .seek, unloadCount := none
          motion := .seeking (track / 2) (max c (track / 2) - min c (track / 2)) s.setup.stepInterval s.setup.headSettle }) ∧
    ((s.drive d).cylinder = some (track / 2) → (s.drive d).head ≠ .unloaded →
      s.seekTrack d track = (s.onDrive d fun x => { x with goal := some track }).arrive d) ∧
    ((s.drive d).status = .mounting ∨ (s.drive d).status = .mounted ∨ (s.drive d).status = .releasing →
      s.arrive d = s.ask d .fill) ∧
    ((s.drive d).status = .faulted → s.arrive d = s.ask d .flush) ∧
    ∀ name serial position begun, (s.drive d).status = .formatting →
      (s.drive d).queue = [⟨.format name serial position false, begun⟩] → s.arrive d = s.ask d .lay) ∧
  (∀ (s : State) (d : DriveNo) (track target steps interval settle_ : Nat),
    ((s.drive d).status = .mounted ∨ (s.drive d).status = .releasing) →
    (s.drive d).motion = .seeking target steps interval settle_ → (s.drive d).goal = some track →
    let moved := fun x : Drive => { x with cylinder := some target, motion := .still, unloadCount := none }
    (s.channel.holder = none →
      exec (.seekComplete d) s =
        .next (State.settled { s.onDrive d fun x => { moved x with head := .run .fill } with
          channel := ⟨some (d, .fill track s.setup.readRetries 0 (List.replicate 15 .unread)), d⟩ })) ∧
    (s.channel.holder ≠ none →
      exec (.seekComplete d) s = .next (s.onDrive d fun x => { moved x with head := .wait .fill }).settled)) ∧
  (∀ (s : State) (d : DriveNo) (interval settle_ : Nat), (s.drive d).status = .mounting → (s.drive d).head = .seek →
    (s.drive d).motion = .recalibrating interval settle_ → (s.drive d).goal = some 0 →
    (s.channel.holder = none →
      ∃ t : State, exec (.recalibrationComplete d true) s = .next t.settled ∧ (t.drive d).cylinder = some 0 ∧
        (t.drive d).head = .run .fill ∧
        t = { s.setDrive d (t.drive d) with
          channel := ⟨some (d, .fill 0 s.setup.readRetries 0 (List.replicate 15 .unread)), d⟩ }) ∧
    (s.channel.holder ≠ none →
      ∃ t : State, exec (.recalibrationComplete d true) s = .next t.settled ∧ (t.drive d).cylinder = some 0 ∧
        (t.drive d).head = .wait .fill ∧ t = s.setDrive d (t.drive d)) ∧
    ∃ t : State, exec (.recalibrationComplete d false) s = .next t.settled ∧ (t.drive d).status = .faulted ∧
      (t.drive d).fault = some ⟨.seek, .noVolume⟩ ∧ (t.drive d).cylinder = none ∧
      t.setup = s.setup ∧ t.pending = s.pending)

/-- FLUSH_SECTOR_WRITTEN on a drive in service, after a header that is seen, names the track's cylinder and a listed record: the record
is CLEAN with the octets it had and leaves the list. With the list empty the flush completes: the drive is OPEN on the track with no
commit waiter, or, where it unloads, UNLOADED with an EMPTY buffer; and where the work was sound, the commit waiters and the catalogue
flush list are handed DONE. After any other header nothing is written. (`writeData` is the model's record of the burst on the write-data
output, log entry 7.) -/
def Obligations.SectorWrittenBecomesClean : Prop :=
  ∀ (s : State) (d : DriveNo) (header : HeaderField) (track pulses : Nat) (toWrite : List Nat) (rs : List SectorRecord)
    (ws : List LineNo) (os : SectorData),
    s.channel.holder = some (d, .flush track toWrite pulses) →
    let sector := (octetAt header.octets 3).toNat
    let named := headerSeen header (track % 2) = true ∧ (octetAt header.octets 1).toNat = track / 2 ∧ sector ∈ toWrite
    (¬named → exec (.flushSectorWritten d header) s = .next s.settled) ∧
    (named → ((s.drive d).status = .mounted ∨ (s.drive d).status = .releasing) → (s.drive d).buffer = .opened track rs ws →
      rs[sector - 1]? = some (.dirty os) →
      (toWrite.filter (· != sector) ≠ [] →
        exec (.flushSectorWritten d header) s =
          .next (State.settled { s.onDrive d fun x =>
              { x with
                buffer := .opened track (rs.set (sector - 1) (.clean os)) ws
                writeData := some (.rewrite track sector os) } with
            channel := { s.channel with holder := some (d, .flush track (toWrite.filter (· != sector)) pulses) } })) ∧
      (toWrite.filter (· != sector) = [] →
        ∃ t : State, exec (.flushSectorWritten d header) s = .next t.settled ∧ (t.drive d).dirtyAge = none ∧
          ((s.drive d).unloading = false → (t.drive d).head = .opened ∧
            (t.drive d).buffer = .opened track (rs.set (sector - 1) (.clean os)) []) ∧
          ((s.drive d).unloading = true → (t.drive d).head = .unloaded ∧ (t.drive d).buffer = .empty ∧
            (t.drive d).unloadCount = none ∧ (t.drive d).unloading = false ∧ (t.drive d).cylinder = (s.drive d).cylinder) ∧
          (∀ j, t.channel.holder ≠ some (d, j)) ∧ (∀ e, e ≠ d → (t.drive e).buffer = (s.drive e).buffer) ∧
          t.setup = s.setup ∧ t.pending = s.pending ∧
          (WorkSound s → ∀ flush, (s.volume d).map Volume.flushList = some flush →
            (t.volume d = (s.volume d).map fun v => { v with flushList := [] }) ∧
            (∀ l, l ∈ ws ∨ .desk l ∈ flush → t.line l = (s.endRequest l .done []).line l ∧ (t.desk l).outstanding = none) ∧
            (∀ l c, s.carries c l = true → .context c ∈ flush →
              t.line l = (s.endRequest l .done
                [octet (s.context c).destDrive.val, octet (s.context c).destSlot.val]).line l ∧
              (t.desk l).outstanding = none) ∧
            (∀ l, l ∉ ws → .desk l ∉ flush → (∀ c, s.carries c l = true → .context c ∉ flush) → t.line l = s.line l) ∧
            ∀ c, .context c ∈ flush → t.context c = CopyContext.reset)))

/-! ## Work queues and the recording channel -/

/-- What a served drive does at the end of an event: a RELEASING one posts its RELEASE item once no handle is open on it and no copy
uses it; one at rest begins its unload count on an empty queue; it flushes its open track first where the dirty age has come to its
setting; otherwise it takes up its head item: it serves it in the open track, flushes another track that is DIRTY, or moves to the
item's track. A drive that alone has work does it first. -/
def Obligations.DrivesServeTheirQueues : Prop :=
  ∀ (s : State) (d : DriveNo),
    let x := s.drive d
    let due := x.status = .releasing ∧ (∀ l h slot, s.handle l h ≠ .read d slot ∧ s.handle l h ≠ .edit d slot) ∧
      (∀ c, (s.context c).uses d = false) ∧ ∀ i ∈ x.queue, i.work ≠ .release
    let old := x.head = .opened ∧ 0 < x.buffer.dirtyCount ∧ ∃ n, x.dirtyAge = some n ∧ s.setup.dirtyAge ≤ n
    (s.enabledAgents = [.drive d] → s.settled = (s.driveStep d).settledAfter 1) ∧
    (due → s.driveReady d = true ∧
      s.driveStep d = s.onDrive d fun y =>
        { y with queue := y.queue ++ [⟨.release, false⟩], unloadCount := none, unloading := false }) ∧
    (¬due → (x.status = .mounted ∨ x.status = .releasing) →
      (x.head = .opened → x.queue = [] → x.unloadCount = none → s.driveReady d = true ∧
        s.driveStep d = s.onDrive d fun y => { y with unloadCount := some 0 }) ∧
      ∀ i rest, x.queue = i :: rest → (x.head = .opened ∨ x.head = .unloaded) →
        s.driveReady d = true ∧ (old → s.driveStep d = s.ask d .flush) ∧
        (¬old → i.work ≠ .release → i.isFormat = false →
          let t := s.onDrive d fun y => { y with queue := ⟨i.work, true⟩ :: rest }
          (∀ rs ws, x.buffer = .opened i.work.track rs ws → s.driveStep d = t.serve d i.work) ∧
          ((∀ rs ws, x.buffer ≠ .opened i.work.track rs ws) →
            (0 < x.buffer.dirtyCount → s.driveStep d = t.ask d .flush) ∧
            (x.buffer.dirtyCount = 0 →
              s.driveStep d = (t.onDrive d fun y => { y with buffer := .empty, dirtyAge := none }).seekTrack d i.work.track))))

/-- The service of a SECTOR-READ: DONE with the text at the index, MEDIUM with the cause of a BAD record, or BAD-INDEX where the index
no longer maps to the item's sector. The service of a SECTOR-WRITE: the record becomes DIRTY with the data, zero-filled; without the
commit flag the desk is answered DONE, and with it the desk joins the commit waiters and the drive asks for a flush; BAD-INDEX as for a
read, and then no flush is made whatever else the buffer holds (the model's choice, log entry 12). -/
def Obligations.SectorItemsAreServed : Prop :=
  ∀ (s : State) (d : DriveNo) (l : LineNo) (h : HandleNo) (slot : SlotNo) (index lsn track : Nat) (rs : List SectorRecord)
    (ws : List LineNo),
    (s.drive d).buffer = .opened track rs ws →
    let e := s.entry d slot
    let t := s.onDrive d fun x => { x with queue := x.queue.tail }
    let text := if index + 1 = e.length then e.tail else 512
    let read := s.serve d (.sectorRead l h slot index lsn)
    (e.lsn index ≠ some lsn → read = t.endRequest l .badIndex []) ∧
    (e.lsn index = some lsn →
      (∀ os, rs[lsn % 15]? = some (.clean os) ∨ rs[lsn % 15]? = some (.dirty os) →
        read = t.endRequest l .done (octets2 text ++ os.take text)) ∧
      ∀ cause, rs[lsn % 15]? = some (.bad cause) → read = t.endRequest l .medium [cause.octet]) ∧
    ∀ (count : Nat) (commit : Bool) (f : Frame), (s.line l).receiveSlot = some ⟨f, true⟩ → count ≤ 512 →
      let write := s.serve d (.sectorWrite l h slot index lsn count commit none)
      let emptied := t.onLine l fun x => { x with receiveSlot := none }
      let data := (f.body.drop 5).take count
      let written := data ++ List.replicate (512 - data.length) 0
      let put := fun (waiters : List LineNo) => emptied.onDrive d fun x =>
        { x with
          buffer := .opened track (rs.set (lsn % 15) (.dirty written)) waiters
          dirtyAge := if rs.countP SectorRecord.isDirty = 0 then some 0 else x.dirtyAge }
      (e.lsn index ≠ some lsn → write = emptied.endRequest l .badIndex []) ∧
      (e.lsn index = some lsn → commit = false → write = (put ws).endRequest l .done []) ∧
      (e.lsn index = some lsn → commit = true → (s.desk l).outstanding ≠ none → write = (put (ws ++ [l])).ask d .flush)

/-- The service of a CATALOGUE-WRITE in open track 0: the volume is rendered into the track with a generation one greater, all 15
records DIRTY, the stale mark clear and the waits on the flush list, and the drive asks for a flush. The RELEASE item at the head
flushes a DIRTY track, renders a stale catalogue into track 0 and flushes it, and at last makes the volume leave: UNLOCKED with the
head unloaded, the cylinder kept, no catalogue, and GONE with 0 offered to every line. -/
def Obligations.CatalogueAndReleaseItems : Prop :=
  ∀ (s : State) (d : DriveNo) (v : Volume), s.volume d = some v →
    let x := s.drive d
    let rendered : Volume :=
      { v with generation := v.generation + 1, stale := false, nextRender := [], flushList := v.flushList ++ v.nextRender }
    let render := fun (t : State) (ws : List LineNo) => ((t.setVolume d (some rendered)).onDrive d fun y =>
      { y with
        buffer := .opened 0
          ((labelOctets v.name v.serial (v.generation + 1) :: catalogueSectors v.entries).map .dirty) ws
        dirtyAge := if x.buffer.dirtyCount = 0 then some 0 else y.dirtyAge })
    (∀ rs ws, x.buffer = .opened 0 rs ws →
      s.serve d .catalogueWrite = (render (s.onDrive d fun y => { y with queue := y.queue.tail }) ws).ask d .flush) ∧
    ∀ i rest, x.queue = i :: rest → i.work = .release →
      let begun := s.onDrive d fun y => { y with queue := ⟨.release, true⟩ :: rest }
      (0 < x.buffer.dirtyCount → s.takeUp d i.work = begun.ask d .flush) ∧
      (x.buffer.dirtyCount = 0 → v.stale = true →
        (∀ rs ws, x.buffer = .opened 0 rs ws → s.takeUp d i.work = (render begun ws).ask d .flush) ∧
        ((∀ rs ws, x.buffer ≠ .opened 0 rs ws) → s.takeUp d i.work =
          (begun.onDrive d fun y => { y with buffer := .empty, dirtyAge := none }).seekTrack d 0)) ∧
      (x.buffer.dirtyCount = 0 → v.stale = false →
        let t := s.takeUp d i.work
        (t.drive d).status = .unlocked ∧ (t.drive d).doorLock = false ∧ (t.drive d).head = .unloaded ∧
          (t.drive d).buffer = .empty ∧ (t.drive d).cylinder = x.cylinder ∧ t.volume d = none ∧
          (x.queue = [i] → (∀ c, (s.context c).uses d = false) → (t.drive d).queue = []) ∧
          ∀ l, t.line l = ((begun.leaveVolume d).line l).takeNotice (.gone d 0))

/-- A drive that asks for a free channel is granted it at once, and waits otherwise; a grant for a FILL, a FLUSH or a LAY begins that job. A
release of the channel grants it to the first waiting drive in the cyclic order after the last-granted one, and to none where none
waits. -/
def Obligations.ArbiterGrantsInCyclicOrder : Prop :=
  (∀ s : State,
    ((∀ d, (s.drive d).head.waits = false) →
      s.releaseChannel.channel = { s.channel with holder := none }) ∧
    (∀ d p, (s.drive d).head = .wait p →
      (∀ k : Fin 4, k.val < (d - s.channel.lastGranted - 1).val →
        (s.drive (s.channel.lastGranted + 1 + k)).head.waits = false) →
      s.releaseChannel.channel = ⟨some (d, s.jobFor d p), d⟩ ∧ (s.releaseChannel.drive d).head = .run p)) ∧
  ∀ (s : State) (d : DriveNo) (p : Purpose),
    (s.channel.holder = none →
      s.ask d p = { s.onDrive d fun x => { x with head := .run p, unloadCount := none } with
        channel := ⟨some (d, s.jobFor d p), d⟩ }) ∧
    (s.channel.holder ≠ none → s.ask d p = s.onDrive d fun x => { x with head := .wait p, unloadCount := none }) ∧
    (∀ track, (s.drive d).goal = some track →
      s.jobFor d .fill = .fill track s.setup.readRetries 0 (List.replicate 15 .unread) ∧
        s.jobFor d .lay = .lay track false) ∧
    ∀ track rs ws, (s.drive d).buffer = .opened track rs ws ∨ (s.drive d).buffer = .retained track rs → rs.length = 15 →
      ∃ listed, s.jobFor d .flush = .flush track listed 0 ∧ listed.Pairwise (· < ·) ∧
        ∀ n, n ∈ listed ↔ 1 ≤ n ∧ ∃ os, rs[n - 1]? = some (.dirty os)
end

