-- ==== Sys2Proof/Laws/State.lean ====
section
/-! SUPPORT. What each update of the state leaves and changes: one lemma per field per update, and the reads of lines, desks,
handles, drives, volumes, entries and contexts after each update. No later proof unfolds a record update. -/

namespace Sys2Proof.Machine

/-- Reading a vector is indexing it. -/
theorem vector_get {α : Type} {n : Nat} (v : Vector α n) (i : Fin n) : v.get i = v[i.val]'i.isLt := rfl

variable (s : State)

/-! ## After `setLine` and `onLine` -/

@[simp] theorem line_setLine_same (i : LineNo) (x : LineUnit) : (s.setLine i x).line i = x := by
  simp [State.setLine, State.line, vector_get]

theorem line_setLine_other (i j : LineNo) (x : LineUnit) (h : j ≠ i) : (s.setLine i x).line j = s.line j := by
  simp [State.setLine, State.line, vector_get, Fin.val_ne_of_ne h.symm]

theorem line_setLine (i j : LineNo) (x : LineUnit) : (s.setLine i x).line j = if j = i then x else s.line j := by
  split
  · next h => subst h; simp
  · next h => exact line_setLine_other s i j x h

@[simp] theorem line_onLine_same (i : LineNo) (f : LineUnit → LineUnit) : (s.onLine i f).line i = f (s.line i) := by
  simp [State.onLine]

theorem line_onLine_other (i j : LineNo) (f : LineUnit → LineUnit) (h : j ≠ i) : (s.onLine i f).line j = s.line j := by
  simp [State.onLine, line_setLine_other _ _ _ _ h]

theorem line_onLine (i j : LineNo) (f : LineUnit → LineUnit) :
    (s.onLine i f).line j = if j = i then f (s.line i) else s.line j := by
  simp [State.onLine, line_setLine]

@[simp] theorem desk_setLine (i : LineNo) (x : LineUnit) (j : LineNo) : (s.setLine i x).desk j = s.desk j := rfl

@[simp] theorem desk_onLine (i : LineNo) (f : LineUnit → LineUnit) (j : LineNo) : (s.onLine i f).desk j = s.desk j := rfl

@[simp] theorem drive_setLine (i : LineNo) (x : LineUnit) (j : DriveNo) : (s.setLine i x).drive j = s.drive j := rfl

@[simp] theorem drive_onLine (i : LineNo) (f : LineUnit → LineUnit) (j : DriveNo) : (s.onLine i f).drive j = s.drive j := rfl

@[simp] theorem volume_setLine (i : LineNo) (x : LineUnit) (j : DriveNo) : (s.setLine i x).volume j = s.volume j := rfl

@[simp] theorem volume_onLine (i : LineNo) (f : LineUnit → LineUnit) (j : DriveNo) : (s.onLine i f).volume j = s.volume j := rfl

@[simp] theorem context_setLine (i : LineNo) (x : LineUnit) (j : ContextNo) : (s.setLine i x).context j = s.context j := rfl

@[simp] theorem context_onLine (i : LineNo) (f : LineUnit → LineUnit) (j : ContextNo) : (s.onLine i f).context j = s.context j := rfl

@[simp] theorem channel_setLine (i : LineNo) (x : LineUnit) : (s.setLine i x).channel = s.channel := rfl

@[simp] theorem channel_onLine (i : LineNo) (f : LineUnit → LineUnit) : (s.onLine i f).channel = s.channel := rfl

@[simp] theorem setup_setLine (i : LineNo) (x : LineUnit) : (s.setLine i x).setup = s.setup := rfl

@[simp] theorem setup_onLine (i : LineNo) (f : LineUnit → LineUnit) : (s.onLine i f).setup = s.setup := rfl

@[simp] theorem choices_setLine (i : LineNo) (x : LineUnit) : (s.setLine i x).choices = s.choices := rfl

@[simp] theorem choices_onLine (i : LineNo) (f : LineUnit → LineUnit) : (s.onLine i f).choices = s.choices := rfl

@[simp] theorem pending_setLine (i : LineNo) (x : LineUnit) : (s.setLine i x).pending = s.pending := rfl

@[simp] theorem pending_onLine (i : LineNo) (f : LineUnit → LineUnit) : (s.onLine i f).pending = s.pending := rfl

/-! ## After `setDesk` and `onDesk` -/

@[simp] theorem desk_setDesk_same (i : LineNo) (x : Desk) : (s.setDesk i x).desk i = x := by
  simp [State.setDesk, State.desk, vector_get]

theorem desk_setDesk_other (i j : LineNo) (x : Desk) (h : j ≠ i) : (s.setDesk i x).desk j = s.desk j := by
  simp [State.setDesk, State.desk, vector_get, Fin.val_ne_of_ne h.symm]

theorem desk_setDesk (i j : LineNo) (x : Desk) : (s.setDesk i x).desk j = if j = i then x else s.desk j := by
  split
  · next h => subst h; simp
  · next h => exact desk_setDesk_other s i j x h

@[simp] theorem desk_onDesk_same (i : LineNo) (f : Desk → Desk) : (s.onDesk i f).desk i = f (s.desk i) := by
  simp [State.onDesk]

theorem desk_onDesk_other (i j : LineNo) (f : Desk → Desk) (h : j ≠ i) : (s.onDesk i f).desk j = s.desk j := by
  simp [State.onDesk, desk_setDesk_other _ _ _ _ h]

theorem desk_onDesk (i j : LineNo) (f : Desk → Desk) :
    (s.onDesk i f).desk j = if j = i then f (s.desk i) else s.desk j := by
  simp [State.onDesk, desk_setDesk]

@[simp] theorem line_setDesk (i : LineNo) (x : Desk) (j : LineNo) : (s.setDesk i x).line j = s.line j := rfl

@[simp] theorem line_onDesk (i : LineNo) (f : Desk → Desk) (j : LineNo) : (s.onDesk i f).line j = s.line j := rfl

@[simp] theorem drive_setDesk (i : LineNo) (x : Desk) (j : DriveNo) : (s.setDesk i x).drive j = s.drive j := rfl

@[simp] theorem drive_onDesk (i : LineNo) (f : Desk → Desk) (j : DriveNo) : (s.onDesk i f).drive j = s.drive j := rfl

@[simp] theorem volume_setDesk (i : LineNo) (x : Desk) (j : DriveNo) : (s.setDesk i x).volume j = s.volume j := rfl

@[simp] theorem volume_onDesk (i : LineNo) (f : Desk → Desk) (j : DriveNo) : (s.onDesk i f).volume j = s.volume j := rfl

@[simp] theorem context_setDesk (i : LineNo) (x : Desk) (j : ContextNo) : (s.setDesk i x).context j = s.context j := rfl

@[simp] theorem context_onDesk (i : LineNo) (f : Desk → Desk) (j : ContextNo) : (s.onDesk i f).context j = s.context j := rfl

@[simp] theorem channel_setDesk (i : LineNo) (x : Desk) : (s.setDesk i x).channel = s.channel := rfl

@[simp] theorem channel_onDesk (i : LineNo) (f : Desk → Desk) : (s.onDesk i f).channel = s.channel := rfl

@[simp] theorem setup_setDesk (i : LineNo) (x : Desk) : (s.setDesk i x).setup = s.setup := rfl

@[simp] theorem setup_onDesk (i : LineNo) (f : Desk → Desk) : (s.onDesk i f).setup = s.setup := rfl

@[simp] theorem choices_setDesk (i : LineNo) (x : Desk) : (s.setDesk i x).choices = s.choices := rfl

@[simp] theorem choices_onDesk (i : LineNo) (f : Desk → Desk) : (s.onDesk i f).choices = s.choices := rfl

@[simp] theorem pending_setDesk (i : LineNo) (x : Desk) : (s.setDesk i x).pending = s.pending := rfl

@[simp] theorem pending_onDesk (i : LineNo) (f : Desk → Desk) : (s.onDesk i f).pending = s.pending := rfl

/-! ## After `setDrive` and `onDrive` -/

@[simp] theorem drive_setDrive_same (i : DriveNo) (x : Drive) : (s.setDrive i x).drive i = x := by
  simp [State.setDrive, State.drive, vector_get]

theorem drive_setDrive_other (i j : DriveNo) (x : Drive) (h : j ≠ i) : (s.setDrive i x).drive j = s.drive j := by
  simp [State.setDrive, State.drive, vector_get, Fin.val_ne_of_ne h.symm]

theorem drive_setDrive (i j : DriveNo) (x : Drive) : (s.setDrive i x).drive j = if j = i then x else s.drive j := by
  split
  · next h => subst h; simp
  · next h => exact drive_setDrive_other s i j x h

@[simp] theorem drive_onDrive_same (i : DriveNo) (f : Drive → Drive) : (s.onDrive i f).drive i = f (s.drive i) := by
  simp [State.onDrive]

theorem drive_onDrive_other (i j : DriveNo) (f : Drive → Drive) (h : j ≠ i) : (s.onDrive i f).drive j = s.drive j := by
  simp [State.onDrive, drive_setDrive_other _ _ _ _ h]

theorem drive_onDrive (i j : DriveNo) (f : Drive → Drive) :
    (s.onDrive i f).drive j = if j = i then f (s.drive i) else s.drive j := by
  simp [State.onDrive, drive_setDrive]

@[simp] theorem line_setDrive (i : DriveNo) (x : Drive) (j : LineNo) : (s.setDrive i x).line j = s.line j := rfl

@[simp] theorem line_onDrive (i : DriveNo) (f : Drive → Drive) (j : LineNo) : (s.onDrive i f).line j = s.line j := rfl

@[simp] theorem desk_setDrive (i : DriveNo) (x : Drive) (j : LineNo) : (s.setDrive i x).desk j = s.desk j := rfl

@[simp] theorem desk_onDrive (i : DriveNo) (f : Drive → Drive) (j : LineNo) : (s.onDrive i f).desk j = s.desk j := rfl

@[simp] theorem volume_setDrive (i : DriveNo) (x : Drive) (j : DriveNo) : (s.setDrive i x).volume j = s.volume j := rfl

@[simp] theorem volume_onDrive (i : DriveNo) (f : Drive → Drive) (j : DriveNo) : (s.onDrive i f).volume j = s.volume j := rfl

@[simp] theorem context_setDrive (i : DriveNo) (x : Drive) (j : ContextNo) : (s.setDrive i x).context j = s.context j := rfl

@[simp] theorem context_onDrive (i : DriveNo) (f : Drive → Drive) (j : ContextNo) : (s.onDrive i f).context j = s.context j := rfl

@[simp] theorem channel_setDrive (i : DriveNo) (x : Drive) : (s.setDrive i x).channel = s.channel := rfl

@[simp] theorem channel_onDrive (i : DriveNo) (f : Drive → Drive) : (s.onDrive i f).channel = s.channel := rfl

@[simp] theorem setup_setDrive (i : DriveNo) (x : Drive) : (s.setDrive i x).setup = s.setup := rfl

@[simp] theorem setup_onDrive (i : DriveNo) (f : Drive → Drive) : (s.onDrive i f).setup = s.setup := rfl

@[simp] theorem choices_setDrive (i : DriveNo) (x : Drive) : (s.setDrive i x).choices = s.choices := rfl

@[simp] theorem choices_onDrive (i : DriveNo) (f : Drive → Drive) : (s.onDrive i f).choices = s.choices := rfl

@[simp] theorem pending_setDrive (i : DriveNo) (x : Drive) : (s.setDrive i x).pending = s.pending := rfl

@[simp] theorem pending_onDrive (i : DriveNo) (f : Drive → Drive) : (s.onDrive i f).pending = s.pending := rfl

/-! ## After `setVolume` and `onVolume` -/

@[simp] theorem volume_setVolume_same (i : DriveNo) (x : Option Volume) : (s.setVolume i x).volume i = x := by
  simp [State.setVolume, State.volume, vector_get]

theorem volume_setVolume_other (i j : DriveNo) (x : Option Volume) (h : j ≠ i) : (s.setVolume i x).volume j = s.volume j := by
  simp [State.setVolume, State.volume, vector_get, Fin.val_ne_of_ne h.symm]

theorem volume_setVolume (i j : DriveNo) (x : Option Volume) : (s.setVolume i x).volume j = if j = i then x else s.volume j := by
  split
  · next h => subst h; simp
  · next h => exact volume_setVolume_other s i j x h

@[simp] theorem volume_onVolume_same (i : DriveNo) (f : Volume → Volume) : (s.onVolume i f).volume i = (s.volume i).map f := by
  simp [State.onVolume]

theorem volume_onVolume_other (i j : DriveNo) (f : Volume → Volume) (h : j ≠ i) : (s.onVolume i f).volume j = s.volume j := by
  simp [State.onVolume, volume_setVolume_other _ _ _ _ h]

theorem volume_onVolume (i j : DriveNo) (f : Volume → Volume) :
    (s.onVolume i f).volume j = if j = i then (s.volume i).map f else s.volume j := by
  simp [State.onVolume, volume_setVolume]

@[simp] theorem line_setVolume (i : DriveNo) (x : Option Volume) (j : LineNo) : (s.setVolume i x).line j = s.line j := rfl

@[simp] theorem line_onVolume (i : DriveNo) (f : Volume → Volume) (j : LineNo) : (s.onVolume i f).line j = s.line j := rfl

@[simp] theorem desk_setVolume (i : DriveNo) (x : Option Volume) (j : LineNo) : (s.setVolume i x).desk j = s.desk j := rfl

@[simp] theorem desk_onVolume (i : DriveNo) (f : Volume → Volume) (j : LineNo) : (s.onVolume i f).desk j = s.desk j := rfl

@[simp] theorem drive_setVolume (i : DriveNo) (x : Option Volume) (j : DriveNo) : (s.setVolume i x).drive j = s.drive j := rfl

@[simp] theorem drive_onVolume (i : DriveNo) (f : Volume → Volume) (j : DriveNo) : (s.onVolume i f).drive j = s.drive j := rfl

@[simp] theorem context_setVolume (i : DriveNo) (x : Option Volume) (j : ContextNo) : (s.setVolume i x).context j = s.context j := rfl

@[simp] theorem context_onVolume (i : DriveNo) (f : Volume → Volume) (j : ContextNo) : (s.onVolume i f).context j = s.context j := rfl

@[simp] theorem channel_setVolume (i : DriveNo) (x : Option Volume) : (s.setVolume i x).channel = s.channel := rfl

@[simp] theorem channel_onVolume (i : DriveNo) (f : Volume → Volume) : (s.onVolume i f).channel = s.channel := rfl

@[simp] theorem setup_setVolume (i : DriveNo) (x : Option Volume) : (s.setVolume i x).setup = s.setup := rfl

@[simp] theorem setup_onVolume (i : DriveNo) (f : Volume → Volume) : (s.onVolume i f).setup = s.setup := rfl

@[simp] theorem choices_setVolume (i : DriveNo) (x : Option Volume) : (s.setVolume i x).choices = s.choices := rfl

@[simp] theorem choices_onVolume (i : DriveNo) (f : Volume → Volume) : (s.onVolume i f).choices = s.choices := rfl

@[simp] theorem pending_setVolume (i : DriveNo) (x : Option Volume) : (s.setVolume i x).pending = s.pending := rfl

@[simp] theorem pending_onVolume (i : DriveNo) (f : Volume → Volume) : (s.onVolume i f).pending = s.pending := rfl

/-! ## After `setContext` and `onContext` -/

@[simp] theorem context_setContext_same (i : ContextNo) (x : CopyContext) : (s.setContext i x).context i = x := by
  simp [State.setContext, State.context, vector_get]

theorem context_setContext_other (i j : ContextNo) (x : CopyContext) (h : j ≠ i) : (s.setContext i x).context j = s.context j := by
  simp [State.setContext, State.context, vector_get, Fin.val_ne_of_ne h.symm]

theorem context_setContext (i j : ContextNo) (x : CopyContext) : (s.setContext i x).context j = if j = i then x else s.context j := by
  split
  · next h => subst h; simp
  · next h => exact context_setContext_other s i j x h

@[simp] theorem context_onContext_same (i : ContextNo) (f : CopyContext → CopyContext) : (s.onContext i f).context i = f (s.context i) := by
  simp [State.onContext]

theorem context_onContext_other (i j : ContextNo) (f : CopyContext → CopyContext) (h : j ≠ i) : (s.onContext i f).context j = s.context j := by
  simp [State.onContext, context_setContext_other _ _ _ _ h]

theorem context_onContext (i j : ContextNo) (f : CopyContext → CopyContext) :
    (s.onContext i f).context j = if j = i then f (s.context i) else s.context j := by
  simp [State.onContext, context_setContext]

@[simp] theorem line_setContext (i : ContextNo) (x : CopyContext) (j : LineNo) : (s.setContext i x).line j = s.line j := rfl

@[simp] theorem line_onContext (i : ContextNo) (f : CopyContext → CopyContext) (j : LineNo) : (s.onContext i f).line j = s.line j := rfl

@[simp] theorem desk_setContext (i : ContextNo) (x : CopyContext) (j : LineNo) : (s.setContext i x).desk j = s.desk j := rfl

@[simp] theorem desk_onContext (i : ContextNo) (f : CopyContext → CopyContext) (j : LineNo) : (s.onContext i f).desk j = s.desk j := rfl

@[simp] theorem drive_setContext (i : ContextNo) (x : CopyContext) (j : DriveNo) : (s.setContext i x).drive j = s.drive j := rfl

@[simp] theorem drive_onContext (i : ContextNo) (f : CopyContext → CopyContext) (j : DriveNo) : (s.onContext i f).drive j = s.drive j := rfl

@[simp] theorem volume_setContext (i : ContextNo) (x : CopyContext) (j : DriveNo) : (s.setContext i x).volume j = s.volume j := rfl

@[simp] theorem volume_onContext (i : ContextNo) (f : CopyContext → CopyContext) (j : DriveNo) : (s.onContext i f).volume j = s.volume j := rfl

@[simp] theorem channel_setContext (i : ContextNo) (x : CopyContext) : (s.setContext i x).channel = s.channel := rfl

@[simp] theorem channel_onContext (i : ContextNo) (f : CopyContext → CopyContext) : (s.onContext i f).channel = s.channel := rfl

@[simp] theorem setup_setContext (i : ContextNo) (x : CopyContext) : (s.setContext i x).setup = s.setup := rfl

@[simp] theorem setup_onContext (i : ContextNo) (f : CopyContext → CopyContext) : (s.onContext i f).setup = s.setup := rfl

@[simp] theorem choices_setContext (i : ContextNo) (x : CopyContext) : (s.setContext i x).choices = s.choices := rfl

@[simp] theorem choices_onContext (i : ContextNo) (f : CopyContext → CopyContext) : (s.onContext i f).choices = s.choices := rfl

@[simp] theorem pending_setContext (i : ContextNo) (x : CopyContext) : (s.setContext i x).pending = s.pending := rfl

@[simp] theorem pending_onContext (i : ContextNo) (f : CopyContext → CopyContext) : (s.onContext i f).pending = s.pending := rfl

/-! ## Handles -/

theorem handle_eq (l : LineNo) (h : HandleNo) : s.handle l h = (s.desk l).handles.get h := rfl

@[simp] theorem handle_setHandle_same (l : LineNo) (h : HandleNo) (x : Handle) : (s.setHandle l h x).handle l h = x := by
  simp [State.setHandle, handle_eq, vector_get]

theorem handle_setHandle_other (l m : LineNo) (h k : HandleNo) (x : Handle) (hne : m ≠ l ∨ k ≠ h) :
    (s.setHandle l h x).handle m k = s.handle m k := by
  by_cases hm : m = l
  · subst hm
    have hk : k ≠ h := hne.resolve_left (fun c => c rfl)
    simp [State.setHandle, handle_eq, vector_get, Fin.val_ne_of_ne hk.symm]
  · simp [State.setHandle, handle_eq, desk_onDesk_other _ _ _ _ hm]

@[simp] theorem handle_onLine (l m : LineNo) (f : LineUnit → LineUnit) (h : HandleNo) :
    (s.onLine l f).handle m h = s.handle m h := rfl

@[simp] theorem handle_onDrive (d : DriveNo) (f : Drive → Drive) (m : LineNo) (h : HandleNo) :
    (s.onDrive d f).handle m h = s.handle m h := rfl

@[simp] theorem handle_onVolume (d : DriveNo) (f : Volume → Volume) (m : LineNo) (h : HandleNo) :
    (s.onVolume d f).handle m h = s.handle m h := rfl

@[simp] theorem outstanding_setHandle (l m : LineNo) (h : HandleNo) (x : Handle) :
    ((s.setHandle l h x).desk m).outstanding = (s.desk m).outstanding := by
  by_cases hm : m = l
  · subst hm; simp [State.setHandle]
  · simp [State.setHandle, desk_onDesk_other _ _ _ _ hm]

@[simp] theorem leftover_setHandle (l m : LineNo) (h : HandleNo) (x : Handle) :
    ((s.setHandle l h x).desk m).leftover = (s.desk m).leftover := by
  by_cases hm : m = l
  · subst hm; simp [State.setHandle]
  · simp [State.setHandle, desk_onDesk_other _ _ _ _ hm]

@[simp] theorem line_setHandle (l m : LineNo) (h : HandleNo) (x : Handle) : (s.setHandle l h x).line m = s.line m := rfl

@[simp] theorem drive_setHandle (l : LineNo) (d : DriveNo) (h : HandleNo) (x : Handle) :
    (s.setHandle l h x).drive d = s.drive d := rfl

@[simp] theorem volume_setHandle (l : LineNo) (d : DriveNo) (h : HandleNo) (x : Handle) :
    (s.setHandle l h x).volume d = s.volume d := rfl

@[simp] theorem context_setHandle (l : LineNo) (c : ContextNo) (h : HandleNo) (x : Handle) :
    (s.setHandle l h x).context c = s.context c := rfl

@[simp] theorem channel_setHandle (l : LineNo) (h : HandleNo) (x : Handle) : (s.setHandle l h x).channel = s.channel := rfl

@[simp] theorem setup_setHandle (l : LineNo) (h : HandleNo) (x : Handle) : (s.setHandle l h x).setup = s.setup := rfl

@[simp] theorem pending_setHandle (l : LineNo) (h : HandleNo) (x : Handle) : (s.setHandle l h x).pending = s.pending := rfl

/-! ## Entries -/

@[simp] theorem entry_onLine (l : LineNo) (f : LineUnit → LineUnit) (d : DriveNo) (slot : SlotNo) :
    (s.onLine l f).entry d slot = s.entry d slot := rfl

@[simp] theorem entry_onDesk (l : LineNo) (f : Desk → Desk) (d : DriveNo) (slot : SlotNo) :
    (s.onDesk l f).entry d slot = s.entry d slot := rfl

@[simp] theorem entry_onDrive (e : DriveNo) (f : Drive → Drive) (d : DriveNo) (slot : SlotNo) :
    (s.onDrive e f).entry d slot = s.entry d slot := rfl

@[simp] theorem entry_setHandle (l : LineNo) (h : HandleNo) (x : Handle) (d : DriveNo) (slot : SlotNo) :
    (s.setHandle l h x).entry d slot = s.entry d slot := rfl

@[simp] theorem Volume.entry_setEntry_same (v : Volume) (slot : SlotNo) (e : Entry) (h : slot.val < v.entries.length) :
    (v.setEntry slot e).entry slot = e := by
  simp [Volume.setEntry, Volume.entry, List.getD_eq_getElem?_getD, h]

theorem Volume.entry_setEntry_other (v : Volume) (slot other : SlotNo) (e : Entry) (h : other ≠ slot) :
    (v.setEntry slot e).entry other = v.entry other := by
  simp [Volume.setEntry, Volume.entry, List.getD_eq_getElem?_getD, Fin.val_ne_of_ne h.symm]

theorem entry_of_volume (d : DriveNo) (slot : SlotNo) (v : Volume) (h : s.volume d = some v) :
    s.entry d slot = v.entry slot := by
  simp [State.entry, h]

theorem entry_onEntry_same (d : DriveNo) (slot : SlotNo) (f : Entry → Entry) (v : Volume) (h : s.volume d = some v)
    (hl : slot.val < v.entries.length) : (s.onEntry d slot f).entry d slot = f (s.entry d slot) := by
  simp [State.entry, State.onEntry, h, hl]

theorem entry_onEntry_otherSlot (d : DriveNo) (slot other : SlotNo) (f : Entry → Entry) (h : other ≠ slot) :
    (s.onEntry d slot f).entry d other = s.entry d other := by
  cases hv : s.volume d <;> simp [State.entry, State.onEntry, hv, Volume.entry_setEntry_other _ _ _ _ h]

theorem entry_onEntry_otherDrive (d e : DriveNo) (slot other : SlotNo) (f : Entry → Entry) (h : e ≠ d) :
    (s.onEntry d slot f).entry e other = s.entry e other := by
  simp [State.entry, State.onEntry, volume_onVolume_other _ _ _ _ h]

@[simp] theorem line_onEntry (d : DriveNo) (slot : SlotNo) (f : Entry → Entry) (l : LineNo) :
    (s.onEntry d slot f).line l = s.line l := rfl

@[simp] theorem desk_onEntry (d : DriveNo) (slot : SlotNo) (f : Entry → Entry) (l : LineNo) :
    (s.onEntry d slot f).desk l = s.desk l := rfl

@[simp] theorem drive_onEntry (d e : DriveNo) (slot : SlotNo) (f : Entry → Entry) : (s.onEntry d slot f).drive e = s.drive e :=
  rfl

@[simp] theorem context_onEntry (d : DriveNo) (slot : SlotNo) (f : Entry → Entry) (c : ContextNo) :
    (s.onEntry d slot f).context c = s.context c := rfl

@[simp] theorem setup_onEntry (d : DriveNo) (slot : SlotNo) (f : Entry → Entry) : (s.onEntry d slot f).setup = s.setup := rfl

@[simp] theorem channel_onEntry (d : DriveNo) (slot : SlotNo) (f : Entry → Entry) : (s.onEntry d slot f).channel = s.channel :=
  rfl

@[simp] theorem pending_onEntry (d : DriveNo) (slot : SlotNo) (f : Entry → Entry) : (s.onEntry d slot f).pending = s.pending :=
  rfl

end Sys2Proof.Machine
end

