-- ==== Sys2Proof/Laws/Operations.lean ====
section
/-! SUPPORT. What the shared operations on lines, answers and notices leave unchanged, and what a line holds after a request has
arrived and been answered. -/

namespace Sys2Proof.Machine

variable (s : State)

/-! ## Answers -/

@[simp] theorem desk_answer (l m : LineNo) (tag : Byte) (oc : Outcome) (r : List Byte) : (s.answer l tag oc r).desk m = s.desk m := rfl
@[simp] theorem drive_answer (l : LineNo) (tag : Byte) (oc : Outcome) (r : List Byte) (d : DriveNo) : (s.answer l tag oc r).drive d = s.drive d := rfl
@[simp] theorem volume_answer (l : LineNo) (tag : Byte) (oc : Outcome) (r : List Byte) (d : DriveNo) : (s.answer l tag oc r).volume d = s.volume d := rfl
@[simp] theorem context_answer (l : LineNo) (tag : Byte) (oc : Outcome) (r : List Byte) (c : ContextNo) : (s.answer l tag oc r).context c = s.context c := rfl
@[simp] theorem channel_answer (l : LineNo) (tag : Byte) (oc : Outcome) (r : List Byte) : (s.answer l tag oc r).channel = s.channel := rfl
@[simp] theorem setup_answer (l : LineNo) (tag : Byte) (oc : Outcome) (r : List Byte) : (s.answer l tag oc r).setup = s.setup := rfl
@[simp] theorem pending_answer (l : LineNo) (tag : Byte) (oc : Outcome) (r : List Byte) : (s.answer l tag oc r).pending = s.pending := rfl

/-! ## Replies: the slot empties and the answer is produced -/

@[simp] theorem desk_reply (l m : LineNo) (tag : Byte) (oc : Outcome) (r : List Byte) : (s.reply l tag oc r).desk m = s.desk m := rfl
@[simp] theorem handle_reply (l m : LineNo) (tag : Byte) (oc : Outcome) (r : List Byte) (h : HandleNo) : (s.reply l tag oc r).handle m h = s.handle m h := rfl
@[simp] theorem drive_reply (l : LineNo) (tag : Byte) (oc : Outcome) (r : List Byte) (d : DriveNo) : (s.reply l tag oc r).drive d = s.drive d := rfl
@[simp] theorem volume_reply (l : LineNo) (tag : Byte) (oc : Outcome) (r : List Byte) (d : DriveNo) : (s.reply l tag oc r).volume d = s.volume d := rfl
@[simp] theorem entry_reply (l : LineNo) (tag : Byte) (oc : Outcome) (r : List Byte) (d : DriveNo) (slot : SlotNo) : (s.reply l tag oc r).entry d slot = s.entry d slot := rfl
@[simp] theorem context_reply (l : LineNo) (tag : Byte) (oc : Outcome) (r : List Byte) (c : ContextNo) : (s.reply l tag oc r).context c = s.context c := rfl
@[simp] theorem channel_reply (l : LineNo) (tag : Byte) (oc : Outcome) (r : List Byte) : (s.reply l tag oc r).channel = s.channel := rfl
@[simp] theorem setup_reply (l : LineNo) (tag : Byte) (oc : Outcome) (r : List Byte) : (s.reply l tag oc r).setup = s.setup := rfl
@[simp] theorem pending_reply (l : LineNo) (tag : Byte) (oc : Outcome) (r : List Byte) : (s.reply l tag oc r).pending = s.pending := rfl

theorem line_reply_other (l m : LineNo) (tag : Byte) (oc : Outcome) (r : List Byte) (h : m ≠ l) :
    (s.reply l tag oc r).line m = s.line m := by
  simp [State.reply, State.answer, State.emptySlot, line_onLine_other _ _ _ _ h]

/-- A reply on an up line with its answer slot empty. -/
theorem line_reply (l : LineNo) (tag : Byte) (oc : Outcome) (r : List Byte) (hu : (s.line l).state.isUp = true)
    (ha : (s.line l).answerSlot = none) :
    (s.reply l tag oc r).line l =
      { s.line l with receiveSlot := none, answerSlot := some ⟨tag, oc, (s.line l).flags.octet, r⟩ } := by
  simp [State.reply, State.answer, State.emptySlot, LineUnit.takeAnswer, hu, ha]

/-! ## A request that arrives -/

@[simp] theorem desk_hears (l m : LineNo) (kind tag : Byte) (body : List Byte) : (s.hears l kind tag body).desk m = s.desk m := rfl
@[simp] theorem handle_hears (l m : LineNo) (kind tag : Byte) (body : List Byte) (h : HandleNo) : (s.hears l kind tag body).handle m h = s.handle m h := rfl
@[simp] theorem drive_hears (l : LineNo) (kind tag : Byte) (body : List Byte) (d : DriveNo) : (s.hears l kind tag body).drive d = s.drive d := rfl
@[simp] theorem volume_hears (l : LineNo) (kind tag : Byte) (body : List Byte) (d : DriveNo) : (s.hears l kind tag body).volume d = s.volume d := rfl
@[simp] theorem entry_hears (l : LineNo) (kind tag : Byte) (body : List Byte) (d : DriveNo) (slot : SlotNo) : (s.hears l kind tag body).entry d slot = s.entry d slot := rfl
@[simp] theorem context_hears (l : LineNo) (kind tag : Byte) (body : List Byte) (c : ContextNo) : (s.hears l kind tag body).context c = s.context c := rfl
@[simp] theorem channel_hears (l : LineNo) (kind tag : Byte) (body : List Byte) : (s.hears l kind tag body).channel = s.channel := rfl
@[simp] theorem setup_hears (l : LineNo) (kind tag : Byte) (body : List Byte) : (s.hears l kind tag body).setup = s.setup := rfl
@[simp] theorem pending_hears (l : LineNo) (kind tag : Byte) (body : List Byte) : (s.hears l kind tag body).pending = s.pending := rfl

theorem line_hears_other (l m : LineNo) (kind tag : Byte) (body : List Byte) (h : m ≠ l) :
    (s.hears l kind tag body).line m = s.line m := by
  simp [State.hears, State.arriveFrame, line_onLine_other _ _ _ _ h]

/-- An open line when a request has arrived on it. -/
theorem line_hears (l : LineNo) (kind tag : Byte) (body : List Byte) (ho : LineOpen s l) (hb : body.length ≤ 520) :
    (s.hears l kind tag body).line l =
      { s.line l with
        state := .upIdle
        receiver := .inFrame
        silence := some s.setup.deskSilence
        receiveSlot := some ⟨requestFrame kind tag body, false⟩ } := by
  obtain ⟨⟨hslot, -, -⟩, hst⟩ := ho
  have hb' : (requestFrame kind tag body).body.length ≤ 520 := hb
  simp only [State.hears, State.arriveFrame, line_onLine_same, LineUnit.receive, hb', ↓reduceIte, LineUnit.seeFlag,
    LineUnit.endGoodFrame, hslot, LineUnit.acceptFrame]
  rcases hst with h | h <;> simp [h, LineState.isUp]

/-! ## Notices and the transmitters' choice -/

@[simp] theorem desk_broadcast (n : Notice) (m : LineNo) : (s.broadcast n).desk m = s.desk m := rfl
@[simp] theorem drive_broadcast (n : Notice) (d : DriveNo) : (s.broadcast n).drive d = s.drive d := rfl
@[simp] theorem volume_broadcast (n : Notice) (d : DriveNo) : (s.broadcast n).volume d = s.volume d := rfl
@[simp] theorem context_broadcast (n : Notice) (c : ContextNo) : (s.broadcast n).context c = s.context c := rfl
@[simp] theorem channel_broadcast (n : Notice) : (s.broadcast n).channel = s.channel := rfl
@[simp] theorem setup_broadcast (n : Notice) : (s.broadcast n).setup = s.setup := rfl

@[simp] theorem desk_chooseFrames (m : LineNo) : s.chooseFrames.desk m = s.desk m := rfl
@[simp] theorem drive_chooseFrames (d : DriveNo) : s.chooseFrames.drive d = s.drive d := rfl
@[simp] theorem volume_chooseFrames (d : DriveNo) : s.chooseFrames.volume d = s.volume d := rfl
@[simp] theorem context_chooseFrames (c : ContextNo) : s.chooseFrames.context c = s.context c := rfl
@[simp] theorem channel_chooseFrames : s.chooseFrames.channel = s.channel := rfl
@[simp] theorem setup_chooseFrames : s.chooseFrames.setup = s.setup := rfl
@[simp] theorem pending_chooseFrames : s.chooseFrames.pending = s.pending := rfl

end Sys2Proof.Machine
end

