-- ==== Sys2Proof/Laws/Settle.lean ====
section
/-! SUPPORT. What the end of an event does: the settle function on quiet states and on states with one agent, and how a request
frame on a free line reaches the dispatcher. -/

namespace Sys2Proof.Machine

variable (s : State)

/-! ## Settling -/

@[simp] theorem settle_zero : settle 0 s = s := rfl

theorem settle_quiet (n : Nat) (h : Quiet s) : settle n s = s := by
  cases n with
  | zero => rfl
  | succ n => simp only [settle, show s.enabledAgents = [] from h]

theorem settle_single (n : Nat) (a : Agent) (h : s.enabledAgents = [a]) : settle (n + 1) s = settle n (s.agentStep a) := by
  simp only [settle, h]
  rfl

/-- On a quiet state the end of an event is the transmitters' choice alone. -/
theorem settledAfter_quiet (n : Nat) (h : Quiet s) : s.settledAfter n = s.chooseFrames := by
  simp only [State.settledAfter, settle_quiet _ _ h]

theorem settled_quiet (h : Quiet s) : s.settled = s.chooseFrames := settledAfter_quiet s 0 h

/-- One agent's piece of work counts as one piece done. -/
theorem settled_single (a : Agent) (h : s.enabledAgents = [a]) : s.settled = (s.agentStep a).settledAfter 1 := by
  show (settle (1023 + 1) s).chooseFrames = (settle 1023 (s.agentStep a)).chooseFrames
  rw [settle_single s 1023 a h]

/-- A quiet state by its agents. -/
theorem quiet_iff :
    Quiet s ↔ (∀ d, s.driveReady d = false) ∧ (∀ l, s.frameReady l = false) := by
  have hd : ∀ d : DriveNo, d ∈ allDrives := by decide
  have hl : ∀ l : LineNo, l ∈ allLines := by decide
  constructor
  · intro h
    have h' : s.enabledAgents = [] := h
    simp only [State.enabledAgents, List.append_eq_nil_iff, List.map_eq_nil_iff, List.filter_eq_nil_iff] at h'
    exact ⟨fun d => by simpa using h'.1 d (hd d), fun l => by simpa using h'.2 l (hl l)⟩
  · intro h
    show s.enabledAgents = []
    simp only [State.enabledAgents, List.append_eq_nil_iff, List.map_eq_nil_iff, List.filter_eq_nil_iff]
    exact ⟨fun d _ => by simp [h.1 d], fun l _ => by simp [h.2 l]⟩

/-- One line alone has a frame to be taken. -/
theorem enabled_line (l : LineNo) (hd : ∀ d, s.driveReady d = false) (hl : s.frameReady l = true)
    (ho : ∀ m, m ≠ l → s.frameReady m = false) : s.enabledAgents = [.line l] := by
  have hfd : (allDrives.filter fun d => s.driveReady d) = [] := by
    simp [hd]
  have hf : (allLines.filter fun m => s.frameReady m) = [l] := by
    have : (fun m => s.frameReady m) = fun m => decide (m = l) := by
      funext m
      by_cases hm : m = l
      · subst hm; simp [hl]
      · simp [hm, ho m hm]
    rw [this]
    exact (by decide : ∀ l : LineNo, (allLines.filter fun m => decide (m = l)) = [l]) l
  simp only [State.enabledAgents, hfd, hf]
  rfl

/-! ## What the agents' work depends on -/

@[simp] theorem driveReady_onLine (l : LineNo) (f : LineUnit → LineUnit) (d : DriveNo) :
    (s.onLine l f).driveReady d = s.driveReady d := rfl

theorem frameReady_onLine_other (l m : LineNo) (f : LineUnit → LineUnit) (h : m ≠ l) :
    (s.onLine l f).frameReady m = s.frameReady m := by
  simp [State.frameReady, line_onLine_other s l m f h]

/-! ## A frame on a free line -/

/-- The line unit a free line becomes when a good frame of at most 520 body octets arrives. -/
theorem receive_slot (x : LineUnit) (f : Frame) (seconds : Nat) (hs : x.receiveSlot = none) (hb : f.body.length ≤ 520) :
    (x.receive f seconds).receiveSlot = some ⟨f, false⟩ ∧ (x.receive f seconds).answerSlot = x.answerSlot := by
  simp only [LineUnit.receive, hb, ↓reduceIte, LineUnit.seeFlag, LineUnit.endGoodFrame, hs, LineUnit.acceptFrame]
  split <;> simp

/-- On a quiet part, a request that arrives on a free line is taken at the same event, and nothing else is done before it. -/
theorem submit_taken (l : LineNo) (kind tag : Byte) (body : List Byte) (hq : Quiet s) (hl : LineFree s l)
    (hb : body.length ≤ 520) :
    submit l kind tag body s =
      .next (((s.arriveFrame l (requestFrame kind tag body)).dispatch l (requestFrame kind tag body)).settledAfter 1) := by
  obtain ⟨hslot, hans, hleft⟩ := hl
  have hq' := (quiet_iff s).mp hq
  have hr := receive_slot (s.line l) (requestFrame kind tag body) s.setup.deskSilence hslot hb
  have hline : (s.arriveFrame l (requestFrame kind tag body)).line l =
      (s.line l).receive (requestFrame kind tag body) s.setup.deskSilence := by
    simp [State.arriveFrame]
  have hen : (s.arriveFrame l (requestFrame kind tag body)).enabledAgents = [.line l] := by
    apply enabled_line
    · intro d
      exact hq'.1 d
    · simp only [State.frameReady, hline, hr.1, hr.2, hans]
      simp [State.arriveFrame, hleft]
    · intro m hm
      rw [State.arriveFrame, frameReady_onLine_other _ _ _ _ hm]
      exact hq'.2 m
  have htake : (s.arriveFrame l (requestFrame kind tag body)).takeFrame l =
      (s.arriveFrame l (requestFrame kind tag body)).dispatch l (requestFrame kind tag body) := by
    simp only [State.takeFrame, hline, hr.1]
  simp only [submit, finish, settled_single _ _ hen, State.agentStep, htake]

/-! ## The line after a frame has arrived -/

/-- A line whose state does not turn a request away is UP-IDLE when its frame has arrived. -/
theorem arrive_upIdle (l : LineNo) (f : Frame) (h : LineOpen s l) (hb : f.body.length ≤ 520) :
    ((s.arriveFrame l f).line l).state = .upIdle := by
  obtain ⟨⟨hslot, -, -⟩, hst⟩ := h
  simp only [State.arriveFrame, line_onLine_same, LineUnit.receive, hb, ↓reduceIte, LineUnit.seeFlag, LineUnit.endGoodFrame,
    hslot, LineUnit.acceptFrame]
  rcases hst with h | h <;> simp [h, LineState.isUp]

/-- A frame that passes the common checks goes to its owner (R184, R185). -/
theorem dispatch_open (l : LineNo) (f : Frame) (r : Request) (hk : isRequestKind f.kind = true)
    (hp : parseRequest f = some r) (hs : (s.line l).state = .upIdle) (h0 : r.supervisorOnly = true → l = 0) :
    s.dispatch l f = s.toOwner l f.tag r := by
  have hsup : (r.supervisorOnly && l != 0) = false := by
    cases h : r.supervisorOnly
    · rfl
    · simp [h0 h]
  simp [State.dispatch, hk, hp, State.dispatchRequest, hsup, hs, refusal]

/-- A well-formed request on an open line of a quiet part is taken by its owner at the same event (R183 to R185). -/
theorem submit_open (l : LineNo) (kind tag : Byte) (body : List Byte) (r : Request) (hq : Quiet s) (hl : LineOpen s l)
    (hb : body.length ≤ 520) (hk : isRequestKind kind = true) (hp : parseRequest (requestFrame kind tag body) = some r)
    (h0 : r.supervisorOnly = true → l = 0) :
    submit l kind tag body s =
      .next (((s.arriveFrame l (requestFrame kind tag body)).toOwner l tag r).settledAfter 1) := by
  rw [submit_taken s l kind tag body hq hl.1 hb]
  rw [dispatch_open _ l (requestFrame kind tag body) r hk hp (arrive_upIdle s l _ hl hb) h0]
  rfl

end Sys2Proof.Machine
end

