-- ==== Sys2Proof/Laws/Sound.lean ====
section
/-! SUPPORT. The shared operations keep a sound state sound: door locks as R97 asks, notice queues within their six places, DOWN
lines empty, the setup table in its ranges. One lemma for each operation. -/

namespace Sys2Proof.Machine

variable {s : State}

/-! ## The updates -/

theorem Sound.onLine (h : Sound s) (l : LineNo) (f : LineUnit → LineUnit) (hf : (s.line l).Sound → (f (s.line l)).Sound) :
    Sound (s.onLine l f) := by
  refine ⟨h.1, fun m => ?_, h.2.2⟩
  rw [line_onLine]
  split
  · exact hf (h.2.1 l)
  · exact h.2.1 m

theorem Sound.onDrive (h : Sound s) (d : DriveNo) (f : Drive → Drive) (hf : (s.drive d).Sound → (f (s.drive d)).Sound) :
    Sound (s.onDrive d f) := by
  refine ⟨fun e => ?_, h.2⟩
  rw [drive_onDrive]
  split
  · exact hf (h.1 d)
  · exact h.1 e

theorem Sound.onDesk (h : Sound s) (l : LineNo) (f : Desk → Desk) : Sound (s.onDesk l f) := h

theorem Sound.setHandle (h : Sound s) (l : LineNo) (k : HandleNo) (x : Handle) : Sound (s.setHandle l k x) := h

theorem Sound.setVolume (h : Sound s) (d : DriveNo) (x : Option Volume) : Sound (s.setVolume d x) := h

theorem Sound.onVolume (h : Sound s) (d : DriveNo) (f : Volume → Volume) : Sound (s.onVolume d f) := h

theorem Sound.onEntry (h : Sound s) (d : DriveNo) (slot : SlotNo) (f : Entry → Entry) : Sound (s.onEntry d slot f) := h

theorem Sound.setContext (h : Sound s) (c : ContextNo) (x : CopyContext) : Sound (s.setContext c x) := h

theorem Sound.onContext (h : Sound s) (c : ContextNo) (f : CopyContext → CopyContext) : Sound (s.onContext c f) := h

theorem Sound.popChoice (h : Sound s) : Sound s.popChoice.2 := by
  unfold State.popChoice
  split <;> exact h

/-- An operation kept by each step of a fold is kept by the fold. -/
theorem Sound.foldl {α : Type} (f : State → α → State) (hf : ∀ t a, Sound t → Sound (f t a)) (xs : List α) (h : Sound s) :
    Sound (xs.foldl f s) := by
  induction xs generalizing s with
  | nil => exact h
  | cons a xs ih => exact ih (hf s a h)

/-! ## Lines -/

theorem LineUnit.Sound.takeAnswer {x : LineUnit} (h : x.Sound) (a : Answer) : (x.takeAnswer a).Sound := by
  unfold LineUnit.takeAnswer
  split
  · next hu =>
    split <;> refine ⟨h.1, fun hd => ?_⟩ <;> simp_all [LineState.isUp]
  · exact h

theorem LineUnit.Sound.takeNotice {x : LineUnit} (h : x.Sound) (n : Notice) : (x.takeNotice n).Sound := by
  unfold LineUnit.takeNotice
  split
  · exact h
  · next hu =>
    split
    · exact h
    · split
      · refine ⟨h.1, fun hd => ?_⟩
        simp_all [LineState.isUp, LineUnit.setNoticeLost]
      · next hlen =>
        refine ⟨?_, fun hd => ?_⟩
        · simp only [List.length_append, List.length_cons, List.length_nil]
          omega
        · simp_all [LineState.isUp]

theorem LineUnit.Sound.chooseFrame {x : LineUnit} (h : x.Sound) : x.chooseFrame.Sound := by
  unfold LineUnit.chooseFrame
  split
  · next hu =>
    split
    · refine ⟨h.1, fun hd => ?_⟩; simp_all [LineState.isUp]
    · refine ⟨h.1, fun hd => ?_⟩; simp_all [LineState.isUp]
    · exact h
  · exact h

theorem LineUnit.Sound.dropSlot {x : LineUnit} (h : x.Sound) : ({ x with receiveSlot := none } : LineUnit).Sound :=
  ⟨h.1, fun hd => ⟨rfl, (h.2 hd).2⟩⟩

theorem LineUnit.Sound.up {x : LineUnit} (h : x.Sound) (st : LineState) (hst : st ≠ .down) :
    ({ x with state := st } : LineUnit).Sound := ⟨h.1, fun hd => absurd hd hst⟩

theorem Sound.answer (h : Sound s) (l : LineNo) (tag : Byte) (oc : Outcome) (r : List Byte) : Sound (s.answer l tag oc r) :=
  h.onLine _ _ fun hl => hl.takeAnswer _

theorem Outcome.stateAfter_ne_down (oc : Outcome) : oc.stateAfter ≠ .down := by cases oc <;> decide

theorem Sound.endRequest (h : Sound s) (l : LineNo) (oc : Outcome) (r : List Byte) : Sound (s.endRequest l oc r) := by
  unfold State.endRequest
  split
  · exact ((h.answer _ _ _ _).onLine _ _ fun hl => hl.up _ oc.stateAfter_ne_down).onDesk _ _
  · exact h.onDesk _ _

theorem Sound.emptySlot (h : Sound s) (l : LineNo) : Sound (s.emptySlot l) := h.onLine _ _ fun hl => hl.dropSlot

theorem Sound.emptyTakenSlot (h : Sound s) (l : LineNo) : Sound (s.emptyTakenSlot l) := by
  refine h.onLine _ _ fun hl => ?_
  split
  · exact hl.dropSlot
  · exact hl

theorem Sound.reply (h : Sound s) (l : LineNo) (tag : Byte) (oc : Outcome) (r : List Byte) : Sound (s.reply l tag oc r) :=
  (h.emptySlot l).answer _ _ _ _

theorem Sound.beginRequest (h : Sound s) (l : LineNo) (k : OutstandingKind) (tag : Byte) : Sound (s.beginRequest l k tag) := by
  unfold State.beginRequest
  exact (h.onLine _ _ fun hl => ⟨hl.1, fun hd => by simp at hd⟩).onDesk _ _

theorem Sound.notify (h : Sound s) (l : LineNo) (n : Notice) : Sound (s.notify l n) := h.onLine _ _ fun hl => hl.takeNotice _

theorem Sound.broadcast (h : Sound s) (n : Notice) : Sound (s.broadcast n) := Sound.foldl _ (fun _ _ ht => ht.notify _ _) _ h

theorem Sound.chooseFrames (h : Sound s) : Sound s.chooseFrames :=
  Sound.foldl _ (fun _ _ ht => ht.onLine _ _ fun hl => hl.chooseFrame) _ h

/-! ## The index and the catalogue -/

theorem Sound.bindNew (h : Sound s) (d : DriveNo) (slot : SlotNo) : Sound (s.bindNew d slot) := by
  unfold State.bindNew
  split
  · exact h
  · exact h.onEntry _ _ _

theorem Sound.promote (h : Sound s) (slug : Slug) : Sound (s.promote slug) := by
  unfold State.promote
  split
  · exact h
  · exact h.onEntry _ _ _

theorem Sound.bindLoaded (h : Sound s) (d : DriveNo) : Sound (s.bindLoaded d) := by
  refine Sound.foldl _ (fun t slot ht => ?_) _ h
  split
  · exact ht.bindNew _ _
  · exact ht

theorem Sound.freeEntry (h : Sound s) (d : DriveNo) (slot : SlotNo) : Sound (s.freeEntry d slot) := by
  unfold State.freeEntry
  dsimp only
  split
  · exact (h.onVolume _ _).promote _
  · exact h.onVolume _ _

theorem Sound.post (h : Sound s) (d : DriveNo) (w : Work) : Sound (s.post d w) := h.onDrive _ _ fun hd => hd

theorem Sound.postCatalogue (h : Sound s) (d : DriveNo) : Sound (s.postCatalogue d) := by
  unfold State.postCatalogue
  split
  · exact h
  · split
    · exact h.post _ _
    · exact h

theorem Sound.setStale (h : Sound s) (d : DriveNo) : Sound (s.setStale d) := (h.onVolume _ _).postCatalogue _

theorem Sound.endCommitWait (h : Sound s) (c : ContextNo) (oc : Outcome) : Sound (s.endCommitWait c oc) := by
  unfold State.endCommitWait
  dsimp only
  split
  · exact (h.setContext _ _).endRequest _ _ _
  · exact h.setContext _ _

theorem Sound.handWaiter (h : Sound s) (oc : Outcome) (w : CatalogueWaiter) : Sound (s.handWaiter oc w) := by
  unfold State.handWaiter
  split
  · exact h.endRequest _ _ _
  · split
    · exact h.endCommitWait _ _
    · exact h

theorem Sound.handWaiters (h : Sound s) (oc : Outcome) (ws : List CatalogueWaiter) : Sound (s.handWaiters oc ws) :=
  Sound.foldl _ (fun _ _ ht => ht.handWaiter _ _) _ h

theorem Sound.registerWait (h : Sound s) (d : DriveNo) (w : CatalogueWaiter) : Sound (s.registerWait d w) := by
  unfold State.registerWait
  split
  · exact h.handWaiter _ _
  · exact h.onVolume _ _

theorem Sound.withdrawWait (h : Sound s) (w : CatalogueWaiter) : Sound (s.withdrawWait w) :=
  Sound.foldl _ (fun _ _ ht => ht.onVolume _ _) _ h

theorem Sound.handAllWaiters (h : Sound s) (d : DriveNo) (oc : Outcome) : Sound (s.handAllWaiters d oc) := by
  unfold State.handAllWaiters
  split
  · exact h
  · exact (h.setVolume _ _).handWaiters _ _

theorem Sound.handFlushed (h : Sound s) (d : DriveNo) : Sound (s.handFlushed d) := by
  unfold State.handFlushed
  split
  · exact h
  · exact (h.setVolume _ _).handWaiters _ _

theorem Sound.render (h : Sound s) (d : DriveNo) : Sound (s.render d) := by
  unfold State.render
  split
  · exact h
  · exact (h.setVolume _ _).onDrive _ _ fun hd => hd

/-! ## The channel -/

theorem Sound.withChannel (h : Sound s) (c : Channel) : Sound { s with channel := c } := h

theorem Sound.grant (h : Sound s) (d : DriveNo) : Sound (s.grant d) := by
  unfold State.grant
  split
  · exact (h.withChannel _).onDrive _ _ fun hd => hd
  · exact h

theorem Sound.ask (h : Sound s) (d : DriveNo) (p : Purpose) : Sound (s.ask d p) := by
  unfold State.ask
  have ht : Sound (s.onDrive d fun x => { x with head := .wait p, unloadCount := none }) := h.onDrive _ _ fun hd => hd
  dsimp only
  split
  · exact ht.grant _
  · exact ht

theorem Sound.releaseChannel (h : Sound s) : Sound s.releaseChannel := by
  unfold State.releaseChannel
  dsimp only
  split
  · exact h.withChannel _
  · exact (h.withChannel _).grant _

theorem Sound.endJob (h : Sound s) (d : DriveNo) : Sound (s.endJob d) := by
  unfold State.endJob
  split
  · split
    · exact h.releaseChannel
    · exact h
  · exact h

theorem Sound.setJob (h : Sound s) (d : DriveNo) (j : Job) : Sound (s.setJob d j) := h

/-! ## Claims -/

theorem Sound.passClaim (h : Sound s) (d : DriveNo) (slot : SlotNo) : Sound (s.passClaim d slot) := by
  unfold State.passClaim
  dsimp only
  split <;> split
  · exact h.onEntry _ _ _
  · exact h.onEntry _ _ _
  · exact (h.onEntry _ _ _).setHandle _ _ _
  · exact (h.onEntry _ _ _).setHandle _ _ _

theorem Sound.releaseClaim (h : Sound s) (d : DriveNo) (slot : SlotNo) : Sound (s.releaseClaim d slot) := by
  unfold State.releaseClaim
  split
  · exact h.passClaim _ _
  · exact (h.passClaim _ _).notify _ _

theorem Sound.removeWaiter (h : Sound s) (d : DriveNo) (slot : SlotNo) (l : LineNo) : Sound (s.removeWaiter d slot l) :=
  h.onEntry _ _ _

theorem Sound.commitChange (h : Sound s) (l : LineNo) (d : DriveNo) (slot : SlotNo) : Sound (s.commitChange l d slot) :=
  (h.onEntry _ _ _).setStale _

theorem Sound.commit (h : Sound s) (l : LineNo) (d : DriveNo) (slot : SlotNo) : Sound (s.commit l d slot) :=
  (h.commitChange _ _ _).releaseClaim _ _

theorem Sound.closeAtDown (h : Sound s) (l : LineNo) (k : HandleNo) : Sound (s.closeAtDown l k) := by
  unfold State.closeAtDown
  split
  · exact h
  · exact (h.onEntry _ _ _).setHandle _ _ _
  · exact (h.removeWaiter _ _ _).setHandle _ _ _
  · split
    · exact ((h.commitChange _ _ _).passClaim _ _).setHandle _ _ _
    · exact (h.passClaim _ _).setHandle _ _ _
  · exact h.setHandle _ _ _

theorem Sound.offerGrant (h : Sound s) (before : State) (l : LineNo) (k : HandleNo) : Sound (before.offerGrant l s k) := by
  unfold State.offerGrant
  split
  · exact h.notify _ _
  · exact h

theorem Sound.offerGrants (h : Sound s) (before : State) : Sound (before.offerGrants s) :=
  Sound.foldl _ (fun _ _ ht => Sound.foldl _ (fun _ _ hu => hu.offerGrant _ _ _) _ ht) _ h

theorem Sound.withdrawHandle (h : Sound s) (d : DriveNo) (l : LineNo) (k : HandleNo) :
    Sound (State.withdrawHandle d l s k) := by
  unfold State.withdrawHandle
  split
  · split
    · exact ((h.removeWaiter _ _ _).setHandle _ _ _).notify _ _
    · exact h
  all_goals exact h

theorem Sound.withdrawWaiters (h : Sound s) (d : DriveNo) : Sound (s.withdrawWaiters d) :=
  Sound.foldl _ (fun _ _ ht => Sound.foldl _ (fun _ _ hu => hu.withdrawHandle _ _ _) _ ht) _ h

theorem Sound.notifyPending (h : Sound s) (d : DriveNo) : Sound (s.notifyPending d) := by
  refine Sound.foldl _ (fun t l ht => ?_) _ h
  dsimp only
  split
  · exact ht
  · exact ht.notify _ _

theorem Sound.loseHandles (h : Sound s) (which : Handle → Option DriveNo) (d : DriveNo) (l : LineNo) :
    Sound (State.loseHandles which d s l) := by
  unfold State.loseHandles
  dsimp only
  split
  · exact h
  · refine Sound.notify (Sound.foldl _ (fun t k ht => ?_) _ h) _ _
    split
    · exact ht.setHandle _ _ _
    · exact ht

theorem Sound.takeClaims (h : Sound s) (d : DriveNo) : Sound (s.takeClaims d) :=
  (Sound.foldl _ (fun _ _ ht => ht.loseHandles _ _ _) _ h).onVolume _ _

theorem Sound.loseVolumeHandles (h : Sound s) (d : DriveNo) : Sound (s.loseVolumeHandles d) :=
  Sound.foldl _ (fun _ _ ht => ht.loseHandles _ _ _) _ h

/-! ## Copies -/

theorem Sound.postCopyRead (h : Sound s) (c : ContextNo) : Sound (s.postCopyRead c) := (h.onContext _ _).post _ _

theorem Sound.postCopyWrite (h : Sound s) (c : ContextNo) : Sound (s.postCopyWrite c) := (h.onContext _ _).post _ _

theorem Sound.removeCopyItems (h : Sound s) (c : ContextNo) : Sound (s.removeCopyItems c) :=
  Sound.foldl _ (fun _ _ ht => ht.onDrive _ _ fun hd => hd) _ h

theorem Sound.freeDestination (h : Sound s) (e : Option DriveNo) (x : CopyContext) : Sound (s.freeDestination e x) := by
  unfold State.freeDestination
  split
  · exact h
  · split
    · exact h
    · exact (h.freeEntry _ _).setStale _

theorem Sound.endCopy (h : Sound s) (e : Option DriveNo) (c : ContextNo) (oc : Outcome) (r : List Byte) :
    Sound (s.endCopy e c oc r) := by
  have ht := ((((h.removeCopyItems c).freeDestination e (s.context c)).onEntry (s.context c).sourceDrive
    (s.context c).sourceSlot fun y => { y with copyReaders := y.copyReaders - 1 }).setContext c CopyContext.reset)
  unfold State.endCopy
  dsimp only
  split
  · exact ht.endRequest _ _ _
  · exact ht

theorem Sound.endCopiesOn (h : Sound s) (e : Option DriveNo) (d : DriveNo) (oc : Outcome) : Sound (s.endCopiesOn e d oc) := by
  refine Sound.foldl _ (fun t c ht => ?_) _ h
  split
  · exact ht.endCopy _ _ _ _
  · exact ht

theorem Sound.completeCopy (h : Sound s) (c : ContextNo) : Sound (s.completeCopy c) :=
  (((((h.onEntry _ _ _).bindNew _ _).setStale _).onEntry _ _ _).onContext _ _).registerWait _ _

theorem Sound.copyRead (h : Sound s) (c : ContextNo) (r : SectorRecord) : Sound (s.copyRead c r) := by
  unfold State.copyRead
  split
  · exact h.endCopy _ _ _ _
  all_goals
    dsimp only
    split
    · exact (h.onContext _ _).endCopy _ _ _ _
    · exact (h.onContext _ _).postCopyWrite _

theorem Sound.serveCopyRead (h : Sound s) (d : DriveNo) (c : ContextNo) : Sound (s.serveCopyRead d c) := by
  unfold State.serveCopyRead
  dsimp only
  split
  · exact h.copyRead _ _
  · exact h

theorem Sound.writeRecord (h : Sound s) (d : DriveNo) (n : Nat) (os : SectorData) :
    Sound (s.onDrive d fun x => x.writeRecord n os) := h.onDrive _ _ fun hd => hd

theorem Sound.copyWritten (h : Sound s) (c : ContextNo) : Sound (s.copyWritten c) := by
  have ht := h.onContext c fun y => { y with next := y.next + 1 }
  unfold State.copyWritten
  dsimp only
  split
  · exact ht.endCopy _ _ _ _
  · split
    · exact ht.completeCopy _
    · exact ht.postCopyRead _

theorem Sound.serveCopyWrite (h : Sound s) (d : DriveNo) (c : ContextNo) : Sound (s.serveCopyWrite d c) := by
  unfold State.serveCopyWrite
  dsimp only
  split
  · exact (h.writeRecord _ _ _).copyWritten _
  · exact h

end Sys2Proof.Machine
end

