-- ==== Sys2Proof/Laws/SoundDrive.lean ====
section
/-! SUPPORT. The drive units' operations and the requests keep a sound state sound (see Sound.lean). -/

namespace Sys2Proof.Machine

variable {s : State}

/-! ## Drive records -/

theorem Drive.Sound.withStatus (x : Drive) (v : VolumeStatus) : (x.withStatus v).Sound := rfl

theorem Drive.Sound.enterSpinUp (x : Drive) : x.enterSpinUp.Sound := rfl

theorem Drive.Sound.removeItems {x : Drive} (h : x.Sound) (p : WorkItem → Bool) : (x.removeItems p).Sound := h

/-! ## Endings -/

theorem Sound.endItem (h : Sound s) (oc : Outcome) (i : WorkItem) : Sound (State.endItem oc s i) := by
  unfold State.endItem
  split
  · exact h.endRequest _ _ _
  · exact (h.emptyTakenSlot _).endRequest _ _ _
  · exact h.endRequest _ _ _
  all_goals exact h

theorem Sound.endItems (h : Sound s) (items : List WorkItem) (oc : Outcome) : Sound (s.endItems items oc) :=
  Sound.foldl _ (fun _ _ ht => ht.endItem _ _) _ h

theorem Sound.answerCommits (h : Sound s) (ws : List LineNo) (oc : Outcome) : Sound (s.answerCommits ws oc) :=
  Sound.foldl _ (fun _ _ ht => ht.endRequest _ _ _) _ h

theorem Sound.answerFormat (h : Sound s) (d : DriveNo) (oc : Outcome) : Sound (s.answerFormat d oc) := by
  unfold State.answerFormat
  split
  · exact (h.onDrive _ _ fun hd => hd).endRequest _ _ _
  · exact h

theorem Sound.leaveVolume (h : Sound s) (d : DriveNo) : Sound (s.leaveVolume d) := by
  have ht := ((h.handAllWaiters d .volumeLost).loseVolumeHandles d).endCopiesOn (some d) d .volumeLost
  unfold State.leaveVolume
  dsimp only
  split
  · exact ht
  · exact Sound.foldl _ (fun _ _ hu => hu.promote _) _ (ht.setVolume _ _)

/-! ## Head movement -/

theorem Sound.haltFormat (h : Sound s) (d : DriveNo) : Sound (s.haltFormat d) :=
  (h.onDrive _ _ fun _ => by rfl).endRequest _ _ _

theorem Sound.arrive (h : Sound s) (d : DriveNo) : Sound (s.arrive d) := by
  unfold State.arrive
  split
  · split
    · exact h.haltFormat _
    · exact h.ask _ _
  all_goals exact h.ask _ _

theorem Sound.seekTrack (h : Sound s) (d : DriveNo) (track : Nat) : Sound (s.seekTrack d track) := by
  have ht : Sound (s.onDrive d fun x => { x with goal := some track }) := h.onDrive _ _ fun hd => hd
  unfold State.seekTrack
  dsimp only
  split
  · exact ht.onDrive _ _ fun hd => hd
  · split
    · exact ht.arrive _
    · exact ht.onDrive _ _ fun hd => hd

theorem Sound.moveTo (h : Sound s) (d : DriveNo) (track : Nat) : Sound (s.moveTo d track) :=
  (h.onDrive _ _ fun hd => hd).seekTrack _ _

theorem Sound.enterMounting (h : Sound s) (d : DriveNo) : Sound (s.enterMounting d) := h.onDrive _ _ fun _ => by rfl

theorem Sound.mountLoad (h : Sound s) (d : DriveNo) : Sound (s.mountLoad d) := by
  unfold State.mountLoad
  split
  · exact (h.onDrive _ _ fun _ => by rfl).answerFormat _ _
  · exact ((((h.setVolume _ _).bindLoaded _).onDrive _ _ fun _ => by rfl).broadcast _).answerFormat _ _

/-! ## Faults and RECOVER -/

theorem Sound.cutMotion (h : Sound s) (d : DriveNo) (cause : FaultCause) : Sound (s.cutMotion d cause) := by
  unfold State.cutMotion
  split
  · exact h
  · split
    · exact h
    all_goals
      split
      · exact h.popChoice
      · exact h.popChoice.onDrive _ _ fun hd => hd

theorem Sound.newFault (h : Sound s) (d : DriveNo) (cause : FaultCause) : Sound (s.newFault d cause) :=
  (((((((((h.cutMotion d cause).onDrive _ _ fun _ => by rfl).endJob _).endItems _ _).answerCommits _ _).answerFormat
    _ _).endCopiesOn _ _ _).handAllWaiters _ _)).broadcast _

theorem Sound.recoverFault (h : Sound s) (d : DriveNo) (cause : FaultCause) : Sound (s.recoverFault d cause) :=
  ((((h.cutMotion d cause).onDrive _ _ fun hd => hd).endJob _).endRequest _ _ _).broadcast _

theorem Sound.raiseFault (h : Sound s) (d : DriveNo) (cause : FaultCause) : Sound (s.raiseFault d cause) := by
  unfold State.raiseFault
  split
  · exact h.newFault _ _
  · exact h.newFault _ _
  · exact h.newFault _ _
  · exact h.newFault _ _
  · exact h.newFault _ _
  · exact h.newFault _ _
  · split
    · exact h.recoverFault _ _
    · exact h
  · exact h
  · exact h

theorem Sound.spinCheckPassed (h : Sound s) (d : DriveNo) : Sound (s.spinCheckPassed d) := h.onDrive _ _ fun hd => hd

theorem Sound.recovered (h : Sound s) (d : DriveNo) : Sound (s.recovered d) := by
  have hu := (h.onDrive d (fun x =>
    { x.withStatus .mounted with fault := none, recover := none, motion := .still, goal := none }) fun _ => by rfl).postCatalogue d
  unfold State.recovered
  dsimp only
  refine Sound.endRequest ?_ _ _ _
  split
  · exact hu
  · exact hu.broadcast _

theorem Sound.recoverRecalibrated (h : Sound s) (d : DriveNo) : Sound (s.recoverRecalibrated d) := by
  unfold State.recoverRecalibrated
  split
  · exact h.seekTrack _ _
  · exact (h.onDrive _ _ fun hd => hd).recovered _
  · exact (h.onDrive _ _ fun _ => by rfl).endRequest _ _ _

/-! ## Removal and release -/

theorem Sound.removeWork (h : Sound s) (d : DriveNo) : Sound (s.removeWork d) := by
  have ht := ((((h.onDrive d Drive.removed fun _ => by rfl).endJob d).endItems (s.drive d).queue .volumeLost).answerCommits
    (s.drive d).buffer.commitWaiters .volumeLost).answerFormat d .volumeLost
  unfold State.removeWork
  dsimp only
  split
  · exact ht.endRequest _ _ _
  · exact ht

theorem Sound.removeVolume (h : Sound s) (d : DriveNo) (n : Nat) : Sound (s.removeVolume d n) := by
  unfold State.removeVolume
  split
  · exact (h.popChoice.leaveVolume _).broadcast _
  · exact (h.popChoice.broadcast _).leaveVolume _

theorem Sound.fallReady (h : Sound s) (d : DriveNo) : Sound (s.fallReady d) := by
  unfold State.fallReady
  split
  · exact h.onDrive _ _ fun hd => hd
  all_goals
    split
    · exact h.removeWork _
    · exact (h.removeWork _).removeVolume _ _

theorem Sound.beginRelease (h : Sound s) (d : DriveNo) : Sound (s.beginRelease d) :=
  ((h.onDrive _ _ fun _ => by rfl).withdrawWaiters _).notifyPending _

theorem Sound.takeAway (h : Sound s) (d : DriveNo) : Sound (s.takeAway d) := by
  have ht : Sound (((s.onDrive d fun x => x.withStatus .releasing).withdrawWaiters d).takeClaims d) :=
    ((h.onDrive _ _ fun _ => by rfl).withdrawWaiters _).takeClaims _
  unfold State.takeAway
  dsimp only
  generalize ((s.onDrive d fun x => x.withStatus .releasing).withdrawWaiters d).takeClaims d = t at ht ⊢
  have hu : Sound (t.onDrive d fun x => x.removeItems fun i => i.sectorDesk.isSome) := ht.onDrive _ _ fun hd => hd.removeItems _
  exact (hu.endItems _ _).endCopiesOn _ _ _

theorem Sound.forceRelease (h : Sound s) (d : DriveNo) : Sound (s.forceRelease d) := by
  unfold State.forceRelease
  split
  · exact h
  · exact h.takeAway _

/-! ## FORMAT -/

theorem Sound.formatLeave (h : Sound s) (d : DriveNo) : Sound (s.formatLeave d) := by
  unfold State.formatLeave
  split
  · exact h
  · exact ((h.onDrive _ _ fun hd => hd).leaveVolume _).broadcast _

theorem Sound.beginFormat (h : Sound s) (d : DriveNo) (name : List Byte) (serial : Word16) :
    Sound (s.beginFormat d name serial) :=
  ((h.formatLeave d).onDrive _ _ fun _ => by rfl).seekTrack _ _

theorem Sound.layComplete (h : Sound s) (d : DriveNo) : Sound (s.layComplete d) := by
  unfold State.layComplete
  split
  · split
    · exact ((h.onDrive _ _ fun _ => by rfl).endJob _).ask _ _
    · dsimp only
      split
      · exact ((h.onDrive _ _ fun hd => hd).endJob _).haltFormat _
      · exact ((h.onDrive _ _ fun hd => hd).endJob _).seekTrack _ _
  · exact h

/-! ## Service -/

theorem Sound.serveSectorRead (h : Sound s) (d : DriveNo) (l : LineNo) (slot : SlotNo) (i lsn : Nat) :
    Sound (s.serveSectorRead d l slot i lsn) := by
  unfold State.serveSectorRead
  dsimp only
  split
  · split <;> exact h.endRequest _ _ _
  · exact h.endRequest _ _ _

theorem Sound.awaitCommit (h : Sound s) (d : DriveNo) (l : LineNo) : Sound (s.awaitCommit d l) := by
  unfold State.awaitCommit
  split
  · exact h.onDrive _ _ fun hd => hd
  · exact h.endRequest _ _ _

theorem Sound.serveSectorWrite (h : Sound s) (d : DriveNo) (l : LineNo) (slot : SlotNo) (i lsn n : Nat) (c : Bool)
    (data : Option (List Byte)) : Sound (s.serveSectorWrite d l slot i lsn n c data) := by
  have ht := h.emptyTakenSlot l
  unfold State.serveSectorWrite
  dsimp only
  split
  · split
    · exact ((ht.writeRecord _ _ _).awaitCommit _ _).ask _ _
    · exact (ht.writeRecord _ _ _).endRequest _ _ _
  · exact ht.endRequest _ _ _

theorem Sound.finishRelease (h : Sound s) (d : DriveNo) : Sound (s.finishRelease d) :=
  (((h.onDrive _ _ fun hd => hd).leaveVolume _).onDrive _ _ fun _ => by rfl).broadcast _

theorem Sound.serve (h : Sound s) (d : DriveNo) (w : Work) : Sound (s.serve d w) := by
  have ht : Sound (s.onDrive d Drive.dropHead) := h.onDrive _ _ fun hd => hd
  unfold State.serve
  dsimp only
  split
  · exact ht.serveSectorRead _ _ _ _ _
  · exact ht.serveSectorWrite _ _ _ _ _ _ _ _
  · exact ht.serveCopyRead _ _
  · exact ht.serveCopyWrite _ _
  · exact (ht.render _).ask _ _
  all_goals exact ht

theorem Sound.stepRelease (h : Sound s) (d : DriveNo) : Sound (s.stepRelease d) := by
  unfold State.stepRelease
  split
  · exact h.ask _ _
  · split
    · split
      · exact (h.render _).ask _ _
      · exact h.moveTo _ _
    · exact h.finishRelease _

theorem Drive.Sound.beginHead {x : Drive} (h : x.Sound) : x.beginHead.Sound := by
  unfold Drive.beginHead
  split <;> exact h

theorem Sound.takeUp (h : Sound s) (d : DriveNo) (w : Work) : Sound (s.takeUp d w) := by
  have ht : Sound (s.onDrive d Drive.beginHead) := h.onDrive _ _ fun hd => hd.beginHead
  unfold State.takeUp
  dsimp only
  split
  · exact ht.stepRelease _
  · exact ht
  all_goals
    split
    · exact ht.serve _ _
    · split
      · exact ht.ask _ _
      · exact ht.moveTo _ _

theorem Sound.driveStep (h : Sound s) (d : DriveNo) : Sound (s.driveStep d) := by
  unfold State.driveStep
  split
  · exact h.post _ _
  · split
    · exact h.onDrive _ _ fun hd => hd
    · split
      · exact h.ask _ _
      · exact h.takeUp _ _

/-! ## Jobs and pulses -/

theorem Sound.fillComplete (h : Sound s) (d : DriveNo) (track : Nat) (rs : List SectorResult) :
    Sound (s.fillComplete d track rs) := by
  have ht := (h.onDrive d (fun x =>
    { x with buffer := .opened track (rs.map SectorResult.record) [], head := .opened, goal := none, reseek := false })
    fun hd => hd).endJob d
  unfold State.fillComplete
  dsimp only
  split
  · exact ht.mountLoad _
  all_goals exact ht

theorem Sound.fillMismatch (h : Sound s) (d : DriveNo) : Sound (s.fillMismatch d) := by
  unfold State.fillMismatch
  split
  · exact h.raiseFault _ _
  · exact (h.onDrive _ _ fun hd => hd).endJob _

theorem Sound.fillRevolution (h : Sound s) (d : DriveNo) (track retries n : Nat) (rs : List SectorResult) (r : Reading) :
    Sound (s.fillRevolution d track retries n rs r) := by
  unfold State.fillRevolution
  dsimp only
  split
  · exact h.fillMismatch _
  · split
    · exact h.fillComplete _ _ _
    · exact h.setJob _ _

theorem Sound.flushComplete (h : Sound s) (d : DriveNo) : Sound (s.flushComplete d) := by
  unfold State.flushComplete
  dsimp only
  split
  · exact ((((h.onDrive _ _ fun hd => hd).endJob _).answerCommits _ _).handFlushed _).recovered _
  · split
    · exact ((((h.onDrive _ _ fun hd => hd).endJob _).answerCommits _ _).handFlushed _).onDrive _ _ fun hd => hd
    · exact (((h.onDrive _ _ fun hd => hd).endJob _).answerCommits _ _).handFlushed _

theorem Sound.sectorWritten (h : Sound s) (d : DriveNo) (f : HeaderField) : Sound (s.sectorWritten d f) := by
  unfold State.sectorWritten
  split
  · split
    · dsimp only
      split
      · exact (h.onDrive _ _ fun hd => hd).flushComplete _
      · exact (h.onDrive _ _ fun hd => hd).setJob _ _
    · exact h
  · exact h

theorem Sound.unload (h : Sound s) (d : DriveNo) : Sound (s.unload d) := by
  unfold State.unload
  split
  · exact (h.onDrive _ _ fun hd => hd).ask _ _
  · exact h.onDrive _ _ fun hd => hd

theorem Sound.idlePulse (h : Sound s) (d : DriveNo) : Sound (s.idlePulse d) := by
  unfold State.idlePulse
  split
  · split
    · exact h.ask _ _
    · split
      · exact h.unload _
      · exact h
  · exact h

theorem Sound.jobPulse (h : Sound s) (d : DriveNo) (n : Nat) (r : Reading) : Sound (s.jobPulse d n r) := by
  unfold State.jobPulse
  split
  · exact h.idlePulse _
  · exact h.setJob _ _
  · exact h.fillRevolution _ _ _ _ _ _
  · split
    · exact h.raiseFault _ _
    · exact h.setJob _ _
  · exact (h.onDrive _ _ fun hd => hd).setJob _ _
  · exact (h.onDrive _ _ fun hd => hd).layComplete _

theorem Sound.speedPulse (h : Sound s) (d : DriveNo) (n : Nat) (r : Reading) : Sound (s.speedPulse d n r) := by
  unfold State.speedPulse
  split
  · exact h.popChoice.raiseFault _ _
  · dsimp only
    split
    · exact (h.popChoice.jobPulse _ _ _).raiseFault _ _
    · exact h.popChoice.jobPulse _ _ _

theorem Sound.indexPulse (h : Sound s) (d : DriveNo) (n : Nat) (r : Reading) : Sound (s.indexPulse d n r) := by
  have ht : Sound (s.onDrive d fun x => ({ x with measurement := x.measurement.pulse n } : Drive).countPulse) :=
    h.onDrive _ _ fun hd => hd
  unfold State.indexPulse
  dsimp only
  split
  · exact ht.enterMounting _
  · split
    · exact ht.spinCheckPassed _
    · split
      · exact ht.speedPulse _ _ _
      · exact ht.jobPulse _ _ _

theorem Sound.seekEnds (h : Sound s) (d : DriveNo) : Sound (s.seekEnds d) := by
  unfold State.seekEnds
  split
  · exact (h.onDrive _ _ fun hd => hd).arrive _
  all_goals exact h

theorem Sound.recalibrationEnds (h : Sound s) (d : DriveNo) (found : Bool) : Sound (s.recalibrationEnds d found) := by
  have ht : Sound (s.onDrive d fun x => { x with cylinder := some 0, motion := .still }) := h.onDrive _ _ fun hd => hd
  unfold State.recalibrationEnds
  split
  · dsimp only
    split
    · exact h.raiseFault _ _
    · split
      · exact ht.recoverRecalibrated _
      · exact ht.seekTrack _ _
  all_goals exact h

end Sys2Proof.Machine
end

