-- ==== Sys2Proof/Laws/SoundRequests.lean ====
section
/-! SUPPORT. The requests, the dispatch of a frame, the drives' work between events and the line and drive events keep a sound
state sound (see Sound.lean). -/

namespace Sys2Proof.Machine

variable {s : State}

/-! ## Story Table -/

theorem Sound.requestFind (h : Sound s) (l : LineNo) (tag : Byte) (q : Option DriveNo) (slug : Slug) :
    Sound (s.requestFind l tag q slug) := by
  unfold State.requestFind
  split
  · exact h.reply _ _ _ _
  · split <;> exact h.reply _ _ _ _

theorem Sound.requestList (h : Sound s) (l : LineNo) (tag : Byte) (d : DriveNo) (slot : SlotNo) :
    Sound (s.requestList l tag d slot) := by
  unfold State.requestList
  split
  · exact h.reply _ _ _ _
  · split <;> exact h.reply _ _ _ _

theorem Sound.requestCreate (h : Sound s) (l : LineNo) (tag : Byte) (d : DriveNo) (slug : Slug) :
    Sound (s.requestCreate l tag d slug) := by
  unfold State.requestCreate
  split
  · exact h.reply _ _ _ _
  · split
    · exact ((((h.onEntry _ _ _).bindNew _ _).setHandle _ _ _).setStale _).reply _ _ _ _
    · exact h.reply _ _ _ _

theorem Sound.requestStage (h : Sound s) (l : LineNo) (tag : Byte) (k : HandleNo) (st : Stage) :
    Sound (s.requestStage l tag k st) := by
  unfold State.requestStage
  split
  · unfold State.stageEntry
    split
    · exact h.reply _ _ _ _
    · exact ((h.onEntry _ _ _).setStale _).reply _ _ _ _
  · exact h.reply _ _ _ _
  · exact h.reply _ _ _ _

theorem Sound.retireEntry (h : Sound s) (d : DriveNo) (slot : SlotNo) : Sound (s.retireEntry d slot) :=
  (h.freeEntry _ _).setStale _

theorem Sound.requestPurge (h : Sound s) (l : LineNo) (tag : Byte) (k : HandleNo) : Sound (s.requestPurge l tag k) := by
  unfold State.requestPurge
  split
  · unfold State.purgeEntry
    split
    · exact h.reply _ _ _ _
    · exact ((h.retireEntry _ _).setHandle _ _ _).reply _ _ _ _
  · exact h.reply _ _ _ _
  · exact h.reply _ _ _ _

theorem Sound.requestDrop (h : Sound s) (l : LineNo) (tag : Byte) (d : DriveNo) (slot : SlotNo) :
    Sound (s.requestDrop l tag d slot) := by
  unfold State.requestDrop
  split
  · exact h.reply _ _ _ _
  · exact (h.retireEntry _ _).reply _ _ _ _

/-! ## Claim unit -/

theorem Sound.takeOpen (h : Sound s) (l : LineNo) (tag : Byte) (k : HandleNo) (d : DriveNo) (slot : SlotNo) (m : Mode) :
    Sound (s.takeOpen l tag k d slot m) := by
  unfold State.takeOpen
  split
  · exact ((h.onEntry _ _ _).setHandle _ _ _).reply _ _ _ _
  · split <;> exact ((h.onEntry _ _ _).setHandle _ _ _).reply _ _ _ _

theorem Sound.requestOpen (h : Sound s) (l : LineNo) (tag : Byte) (q : Option DriveNo) (slug : Slug) (m : Mode) (w : Bool) :
    Sound (s.requestOpen l tag q slug m w) := by
  unfold State.requestOpen
  split
  · exact h.reply _ _ _ _
  · split
    · exact h.reply _ _ _ _
    · unfold State.openEntry
      split
      · exact h.takeOpen _ _ _ _ _ _
      · exact h.reply _ _ _ _
      · exact h.reply _ _ _ _

theorem Sound.requestClose (h : Sound s) (l : LineNo) (tag : Byte) (k : HandleNo) : Sound (s.requestClose l tag k) := by
  unfold State.requestClose
  split
  · exact h.reply _ _ _ _
  · exact ((h.onEntry _ _ _).setHandle _ _ _).reply _ _ _ _
  · exact ((h.removeWaiter _ _ _).setHandle _ _ _).reply _ _ _ _
  · exact (h.setHandle _ _ _).reply _ _ _ _
  · unfold State.closeEdit
    split
    · exact (((h.commit _ _ _).setHandle _ _ _).beginRequest _ _ _).registerWait _ _
    · exact ((h.releaseClaim _ _).setHandle _ _ _).reply _ _ _ _

theorem Sound.breakCopy (h : Sound s) (l : LineNo) (k : HandleNo) : Sound (s.breakCopy l k) := by
  unfold State.breakCopy
  split
  · exact h
  · split
    · exact h.endCopy _ _ _ _
    · exact h

theorem Sound.breakRequest (h : Sound s) (d : DriveNo) (l : LineNo) (k : HandleNo) : Sound (s.breakRequest d l k) := by
  unfold State.breakRequest
  split
  · exact ((h.onDrive _ _ fun hd => hd.removeItems _).emptyTakenSlot _).endRequest _ _ _
  · exact h.breakCopy _ _

theorem Sound.breakHolder (h : Sound s) (d : DriveNo) (slot : SlotNo) (l : LineNo) : Sound (s.breakHolder d slot l) := by
  unfold State.breakHolder
  split
  · exact h.releaseClaim _ _
  · exact (((h.setHandle _ _ _).notify _ _).breakRequest _ _ _).releaseClaim _ _

theorem Sound.requestBreak (h : Sound s) (l : LineNo) (tag : Byte) (d : DriveNo) (slot : SlotNo) :
    Sound (s.requestBreak l tag d slot) := by
  unfold State.requestBreak
  split
  · exact h.reply _ _ _ _
  · split
    · exact h.reply _ _ _ _
    · exact (h.breakHolder _ _ _).reply _ _ _ _

/-! ## Space unit -/

theorem Sound.requestRead (h : Sound s) (l : LineNo) (tag : Byte) (k : HandleNo) (i : Nat) : Sound (s.requestRead l tag k i) := by
  unfold State.requestRead
  split
  · unfold State.readEntry
    split
    · exact h.reply _ _ _ _
    · split
      · exact h.reply _ _ _ _
      · exact (h.post _ _).beginRequest _ _ _
  · exact h.reply _ _ _ _
  · exact h.reply _ _ _ _

theorem Sound.postWrite (h : Sound s) (l : LineNo) (tag : Byte) (k : HandleNo) (d : DriveNo) (slot : SlotNo) (i n : Nat)
    (c : Bool) : Sound (s.postWrite l tag k d slot i n c) :=
  (((h.post _ _).onEntry _ _ _).setStale _).beginRequest _ _ _

theorem Sound.append (h : Sound s) (l : LineNo) (tag : Byte) (k : HandleNo) (d : DriveNo) (slot : SlotNo) (i n : Nat)
    (c : Bool) : Sound (s.append l tag k d slot i n c) := by
  unfold State.append
  split
  · exact h.reply _ _ _ _
  · exact h.reply _ _ _ _
  · split
    · exact h.reply _ _ _ _
    · exact ((h.setVolume _ _).onEntry _ _ _).postWrite _ _ _ _ _ _ _ _

theorem Sound.requestWrite (h : Sound s) (l : LineNo) (tag : Byte) (k : HandleNo) (i n : Nat) (c : Bool) :
    Sound (s.requestWrite l tag k i n c) := by
  unfold State.requestWrite
  split
  · unfold State.writeEntry
    dsimp only
    split
    · exact h.reply _ _ _ _
    · split
      · exact (h.onEntry _ _ _).postWrite _ _ _ _ _ _ _ _
      · exact h.append _ _ _ _ _ _ _ _
  · exact h.reply _ _ _ _
  · exact h.reply _ _ _ _

theorem Sound.requestTrim (h : Sound s) (l : LineNo) (tag : Byte) (k : HandleNo) (m t : Nat) : Sound (s.requestTrim l tag k m t) := by
  unfold State.requestTrim
  split
  · unfold State.trimStory
    split
    · exact h.reply _ _ _ _
    · exact ((h.onVolume _ _).setStale _).reply _ _ _ _
  · exact h.reply _ _ _ _
  · exact h.reply _ _ _ _

/-! ## Copy engine -/

theorem Sound.takeCopy (h : Sound s) (l : LineNo) (tag : Byte) (k : HandleNo) (d : DriveNo) (slot : SlotNo) (e : DriveNo)
    (eslot : SlotNo) (slug : Slug) (c : ContextNo) (xs : List Extent) (v : Volume) :
    Sound (s.takeCopy l tag k d slot e eslot slug c xs v) := by
  have ht := (((h.onContext c fun x => x.taken l k d slot e eslot (s.entry d slot).length).setVolume e
    (some (v.setEntry eslot (fillingEntry (s.entry d slot) slug xs)))).onEntry d slot
      fun y => { y with copyReaders := y.copyReaders + 1 }).beginRequest l .copy tag
  unfold State.takeCopy
  dsimp only
  split
  · exact ht.completeCopy _
  · exact ht.postCopyRead _

theorem Sound.requestCopy (h : Sound s) (l : LineNo) (tag : Byte) (k : HandleNo) (e : DriveNo) (slug : Slug) :
    Sound (s.requestCopy l tag k e slug) := by
  unfold State.requestCopy
  split
  · unfold State.copyEntry
    split
    · unfold State.allocateDestination
      split
      · exact h.reply _ _ _ _
      · split
        · exact h.reply _ _ _ _
        · exact h.takeCopy _ _ _ _ _ _ _ _ _ _ _
    all_goals exact h.reply _ _ _ _
  · exact h.reply _ _ _ _
  · exact h.reply _ _ _ _

/-! ## Drive units -/

theorem Sound.requestRelease (h : Sound s) (l : LineNo) (tag : Byte) (d : DriveNo) (f : Bool) :
    Sound (s.requestRelease l tag d f) := by
  unfold State.requestRelease
  split
  · refine Sound.reply ?_ _ _ _ _
    split
    · exact h.forceRelease _
    · exact h.beginRelease _
  · split
    · exact (h.forceRelease _).reply _ _ _ _
    · exact h.reply _ _ _ _
  all_goals exact h.reply _ _ _ _

theorem Sound.requestMount (h : Sound s) (l : LineNo) (tag : Byte) (d : DriveNo) : Sound (s.requestMount l tag d) := by
  unfold State.requestMount
  split
  · exact (h.onDrive _ _ fun _ => by rfl).reply _ _ _ _
  · exact (h.onDrive _ _ fun _ => by rfl).reply _ _ _ _
  all_goals exact h.reply _ _ _ _

theorem Sound.takeFormat (h : Sound s) (l : LineNo) (tag : Byte) (d : DriveNo) (name : List Byte) (serial : Word16) :
    Sound (s.takeFormat l tag d name serial) := by
  unfold State.takeFormat
  split
  · exact h.reply _ _ _ _
  · exact (h.beginRequest _ _ _).beginFormat _ _ _

theorem Sound.requestFormat (h : Sound s) (l : LineNo) (tag : Byte) (d : DriveNo) (name : List Byte) (serial : Word16) :
    Sound (s.requestFormat l tag d name serial) := by
  unfold State.requestFormat
  split
  · exact h.reply _ _ _ _
  · exact h.reply _ _ _ _
  · exact h.reply _ _ _ _
  · exact h.reply _ _ _ _
  · exact h.reply _ _ _ _
  · exact h.reply _ _ _ _
  · split
    · exact h.reply _ _ _ _
    · exact h.takeFormat _ _ _ _ _
  · exact h.takeFormat _ _ _ _ _
  · exact h.takeFormat _ _ _ _ _

theorem Sound.requestRecover (h : Sound s) (l : LineNo) (tag : Byte) (d : DriveNo) : Sound (s.requestRecover l tag d) := by
  unfold State.requestRecover
  split
  · exact h.reply _ _ _ _
  · split
    · exact h.reply _ _ _ _
    · exact (h.onDrive _ _ fun hd => hd).beginRequest _ _ _
  all_goals exact h.reply _ _ _ _

theorem Sound.discardDrive (h : Sound s) (d : DriveNo) : Sound (s.discardDrive d) := by
  unfold State.discardDrive
  split
  · exact (((h.onDrive _ _ fun hd => hd).leaveVolume _).onDrive _ _ fun _ => by rfl).broadcast _
  · exact h.onDrive _ _ fun _ => by rfl

theorem Sound.requestDiscard (h : Sound s) (l : LineNo) (tag : Byte) (d : DriveNo) : Sound (s.requestDiscard l tag d) := by
  unfold State.requestDiscard
  split
  · exact h.reply _ _ _ _
  · split
    · exact h.reply _ _ _ _
    · exact (h.discardDrive _).reply _ _ _ _
  all_goals exact h.reply _ _ _ _

/-! ## Dispatcher -/

theorem Sound.haltFormatItem (h : Sound s) (d : DriveNo) : Sound (s.haltFormatItem d) := by
  have ht : Sound (s.onDrive d Drive.setFormatHalt) := by
    refine h.onDrive _ _ fun hd => ?_
    unfold Drive.setFormatHalt
    split <;> exact hd
  unfold State.haltFormatItem
  split
  · exact h
  · dsimp only
    split
    · exact ht.haltFormat _
    · exact ht

theorem Sound.haltFormatting (h : Sound s) : Sound s.haltFormatting := by
  unfold State.haltFormatting
  split
  · exact h
  · exact h.haltFormatItem _

theorem Sound.haltRead (h : Sound s) (l : LineNo) : Sound (s.haltRead l) := by
  unfold State.haltRead
  split
  · exact (Sound.foldl _ (fun _ _ ht => ht.onDrive _ _ fun hd => hd.removeItems _) _ h).endRequest _ _ _
  · exact h

theorem Sound.haltCopy (h : Sound s) (l : LineNo) : Sound (s.haltCopy l) := by
  unfold State.haltCopy
  split
  · exact h
  · split
    · exact h.onContext _ _
    · exact h

theorem Sound.requestHalt (h : Sound s) (l : LineNo) (tag : Byte) : Sound (s.requestHalt l tag) := by
  unfold State.requestHalt
  split
  · exact h.reply _ _ _ _
  · unfold State.haltRequest
    split
    · exact (h.emptySlot _).haltRead _
    · exact (h.emptySlot _).haltCopy _
    · exact (h.emptySlot _).haltFormatting
    all_goals exact h.emptySlot _

theorem Sound.requestClear (h : Sound s) (l : LineNo) (tag : Byte) : Sound (s.requestClear l tag) := by
  unfold State.requestClear
  split
  · exact (h.onLine _ _ fun hl => hl.up _ (by decide)).reply _ _ _ _
  · exact h.reply _ _ _ _

theorem LineUnit.Sound.clearFlags {x : LineUnit} (h : x.Sound) : ({ x with flags := LineFlags.clear } : LineUnit).Sound :=
  ⟨h.1, fun hd => by
    obtain ⟨a, b, c, e, f, -, g⟩ := h.2 hd
    exact ⟨a, b, c, e, f, rfl, g⟩⟩

theorem Sound.requestStatus (h : Sound s) (l : LineNo) (tag : Byte) : Sound (s.requestStatus l tag) :=
  (h.reply _ _ _ _).onLine _ _ fun hl => hl.clearFlags

theorem Sound.requestVolume (h : Sound s) (l : LineNo) (tag : Byte) (d : DriveNo) : Sound (s.requestVolume l tag d) := by
  unfold State.requestVolume
  split
  · exact h.reply _ _ _ _
  · split <;> exact h.reply _ _ _ _

theorem Sound.requestMask (h : Sound s) (l : LineNo) (tag : Byte) (m : BitVec 9) (hup : (s.line l).state ≠ .down) :
    Sound (s.requestMask l tag m) :=
  (h.onLine _ _ fun hl => ⟨hl.1, fun hd => absurd hd hup⟩).reply _ _ _ _

theorem Setup.clamped_inRange (t : Setup) : t.clamped.InRange := by
  simp only [Setup.InRange, Setup.clamped, clamp]
  omega

theorem Sound.requestSetup (h : Sound s) (l : LineNo) (tag : Byte) (t : Setup) : Sound (s.requestSetup l tag t) := by
  unfold State.requestSetup
  split
  · exact h.reply _ _ _ _
  · have hs : Sound { s with setup := t.clamped } := ⟨h.1, h.2.1, t.clamped_inRange⟩
    exact hs.reply _ _ _ _

/-- Every owner keeps a sound state sound; the line is up when its frame is taken. -/
theorem Sound.toOwner (h : Sound s) (l : LineNo) (tag : Byte) (r : Request) (hup : (s.line l).state ≠ .down) :
    Sound (s.toOwner l tag r) := by
  cases r
  · exact h.requestFind _ _ _ _
  · exact h.requestList _ _ _ _
  · exact h.requestOpen _ _ _ _ _ _
  · exact h.requestClose _ _ _
  · exact h.requestCreate _ _ _ _
  · exact h.requestRead _ _ _ _
  · exact h.requestWrite _ _ _ _ _ _
  · exact h.requestTrim _ _ _ _ _
  · exact h.requestStage _ _ _ _
  · exact h.requestPurge _ _ _
  · exact h.requestCopy _ _ _ _ _
  · exact h.requestHalt _ _
  · exact h.requestClear _ _
  · exact h.requestStatus _ _
  · exact h.requestVolume _ _ _
  · exact h.requestMask _ _ _ hup
  · exact h.requestBreak _ _ _ _
  · exact h.requestRelease _ _ _ _
  · exact h.requestMount _ _ _
  · exact h.requestFormat _ _ _ _ _
  · exact h.requestRecover _ _ _
  · exact h.requestDiscard _ _ _
  · exact h.requestSetup _ _ _
  · exact h.requestDrop _ _ _ _

theorem Sound.dispatch (h : Sound s) (l : LineNo) (f : Frame) (hup : (s.line l).state ≠ .down) : Sound (s.dispatch l f) := by
  unfold State.dispatch
  split
  · split
    · exact h.reply _ _ _ _
    · unfold State.dispatchRequest
      split
      · exact h.reply _ _ _ _
      · exact h.toOwner _ _ _ hup
  · exact h.reply _ _ _ _

theorem Sound.takeFrame (h : Sound s) (l : LineNo) : Sound (s.takeFrame l) := by
  unfold State.takeFrame
  split
  · next r hr =>
    refine h.dispatch _ _ fun hd => ?_
    have := ((h.2.1 l).2 hd).1
    simp [hr] at this
  · exact h

/-- One piece of the work that takes no time keeps a sound state sound. -/
theorem Sound.agentStep (h : Sound s) (a : Agent) : Sound (s.agentStep a) := by
  cases a
  · exact h.driveStep _
  · exact h.takeFrame _

theorem Sound.chooseAgent (h : Sound s) (a : Agent) (rest : List Agent) : Sound (s.chooseAgent a rest).2 := by
  unfold State.chooseAgent
  split
  · exact h
  · exact h.popChoice

/-! ## Line events -/

theorem LineUnit.Sound.seeFlag {x : LineUnit} (h : x.Sound) (n : Nat) : (x.seeFlag n).Sound := by
  refine ⟨h.1, fun hd => ?_⟩
  have hd' : x.state = .down := hd
  obtain ⟨a, b, c, e, f, g, i, j⟩ := h.2 hd'
  exact ⟨a, b, c, e, f, g, by simp [LineUnit.seeFlag, hd', LineState.isUp, i], j⟩

theorem LineUnit.Sound.discardBad {x : LineUnit} (h : x.Sound) : x.discardBad.Sound := by
  unfold LineUnit.discardBad
  split
  · next hu => exact ⟨h.1, fun hd => by simp_all [LineUnit.setFrameError, LineState.isUp]⟩
  · exact h

theorem LineUnit.Sound.setOverrun {x : LineUnit} (h : x.Sound) (hs : x.receiveSlot ≠ none) : x.setOverrun.Sound :=
  ⟨h.1, fun hd => absurd (h.2 hd).1 hs⟩

theorem LineUnit.Sound.acceptFrame {x : LineUnit} (h : x.Sound) (f : Frame) (n : Nat) : (x.acceptFrame f n).Sound := by
  unfold LineUnit.acceptFrame
  split
  · next hu => exact ⟨h.1, fun hd => by simp_all [LineState.isUp]⟩
  · exact ⟨h.1, fun hd => by simp at hd⟩

theorem LineUnit.Sound.endGoodFrame {x : LineUnit} (h : x.Sound) (f : Frame) (n : Nat) : (x.endGoodFrame f n).Sound := by
  unfold LineUnit.endGoodFrame
  split
  · next hs => exact h.setOverrun (by simp [hs])
  · exact h.acceptFrame _ _

theorem LineUnit.Sound.endBadFrame {x : LineUnit} (h : x.Sound) : x.endBadFrame.Sound := by
  unfold LineUnit.endBadFrame
  split
  · next hs => exact h.setOverrun (by simp [hs])
  · exact h.discardBad

theorem LineUnit.Sound.withReceiver {x : LineUnit} (h : x.Sound) (r : Receiver) : ({ x with receiver := r } : LineUnit).Sound := h

theorem LineUnit.Sound.endFrame {x : LineUnit} (h : x.Sound) (os : List Byte) (spare n : Nat) : (x.endFrame os spare n).Sound := by
  unfold LineUnit.endFrame
  dsimp only
  split
  · exact h.seeFlag _
  · split
    · exact (h.seeFlag _).endGoodFrame _ _
    · exact (h.seeFlag _).endBadFrame

theorem LineUnit.Sound.tooLong {x : LineUnit} (h : x.Sound) : x.tooLong.Sound := by
  unfold LineUnit.tooLong
  split
  · exact h
  · exact h.discardBad.withReceiver _

theorem LineUnit.Sound.receive {x : LineUnit} (h : x.Sound) (f : Frame) (n : Nat) : (x.receive f n).Sound := by
  unfold LineUnit.receive
  split
  · exact (h.seeFlag _).endGoodFrame _ _
  · exact (h.seeFlag _).tooLong

theorem LineUnit.Sound.sent {x : LineUnit} (h : x.Sound) : x.sent.Sound := by
  unfold LineUnit.sent
  split
  · exact h
  · next hs => exact ⟨h.1, fun hd => by have := h.2 hd; simp_all⟩
  · next hs =>
    refine ⟨?_, fun hd => by have := h.2 hd; simp_all⟩
    have hlen := h.1
    simp only [List.length_tail]
    omega

theorem LineUnit.Sound.down {x : LineUnit} : x.down.Sound :=
  ⟨Nat.zero_le _, fun _ => ⟨rfl, rfl, rfl, rfl, rfl, rfl, rfl, rfl⟩⟩

theorem Sound.abandonSector (h : Sound s) (l : LineNo) (data : List Byte) : Sound (s.abandonSector l data) := by
  unfold State.abandonSector
  have ht := Sound.foldl (s := s)
    (fun u d => u.onDrive d fun x =>
      { x with
        queue := (x.queue.filter fun i => !i.waitingSector l).map (WorkItem.handData l data)
        buffer := x.buffer.dropCommit l }) (fun _ _ hu => hu.onDrive _ _ fun hd => hd) allDrives h
  dsimp only
  split
  · exact ht.onDesk _ _
  · exact ht

theorem Sound.abandonCopy (h : Sound s) (l : LineNo) : Sound (s.abandonCopy l) := by
  unfold State.abandonCopy
  split
  · exact h
  · split
    · exact h.onContext _ _
    · exact (h.withdrawWait _).setContext _ _

theorem Sound.abandonOutstanding (h : Sound s) (l : LineNo) (data : List Byte) : Sound (s.abandonOutstanding l data) := by
  unfold State.abandonOutstanding
  split
  · exact h
  · unfold State.abandonRequest
    split
    · exact (h.onDesk _ _).abandonSector _ _
    · exact (h.onDesk _ _).abandonSector _ _
    · exact (h.onDesk _ _).withdrawWait _
    · exact (h.onDesk _ _).abandonCopy _
    · exact ((h.onDesk _ _).onDesk _ _).haltFormatting
    · exact (h.onDesk _ _).onDesk _ _

theorem Sound.lineDown (h : Sound s) (l : LineNo) : Sound (s.lineDown l) :=
  (Sound.foldl _ (fun _ _ ht => ht.closeAtDown _ _) _
    ((h.onLine _ _ fun _ => LineUnit.Sound.down).abandonOutstanding _ _)).offerGrants _

theorem Sound.arriveFrame (h : Sound s) (l : LineNo) (f : Frame) : Sound (s.arriveFrame l f) :=
  h.onLine _ _ fun hl => hl.receive _ _

/-! ## Drive events -/

theorem Sound.riseReady (h : Sound s) (d : DriveNo) (p : Bool) : Sound (s.riseReady d p) := by
  unfold State.riseReady
  split
  · exact h.onDrive _ _ fun _ => by rfl
  · exact h.onDrive _ _ fun hd => hd

theorem Sound.pressRelease (h : Sound s) (d : DriveNo) : Sound (s.pressRelease d) := by
  unfold State.pressRelease
  split
  · exact h.beginRelease _
  · exact h.onDrive _ _ fun _ => by rfl
  · exact h.onDrive _ _ fun _ => by rfl
  all_goals exact h

theorem Sound.waitExpires (h : Sound s) (l : LineNo) (k : HandleNo) : Sound (s.waitExpires l k) := by
  unfold State.waitExpires
  split
  · exact ((h.removeWaiter _ _ _).setHandle _ _ _).notify _ _
  all_goals exact h

end Sys2Proof.Machine
end

