-- ==== Sys2Proof/Tests/Slice0.lean ====
section
/-! SUPPORT. Tests of the model: ill-formed commands refused by each check, the spec's worked examples, one step for each family of
commands, and for every statement with hypotheses a theorem that shows a state and operands that meet them. -/

open Sys2Proof Sys2Proof.Machine

namespace Sys2Proof.Tests

set_option Elab.async false

/-! ## A small state -/

/-- A slug of one letter. -/
def slugOf (c : Byte) : Slug := c :: List.replicate 11 0x20

/-- A story. -/
def story (c : Byte) (xs : List Extent) (tail : Nat) (stage : Stage) : Entry :=
  { Entry.free with use := .live, slug := slugOf c, extents := xs, tail := tail, stage := stage, bound := true }

/-- A catalogue: slot 0 changed and held by desk 2, slot 1 spiked and held by desk 3, slot 2 without a holder, slot 3 held by desk 4
with desk 5 waiting, slot 4 DAMAGED, slot 5 held by desk 6. -/
def entriesA : List Entry :=
  [{ story 0x41 [⟨100, 2⟩] 512 .edit with editHolder := some 2, changed := true },
    { story 0x42 [⟨110, 1⟩] 9 .spiked with editHolder := some 3 },
    { story 0x43 [⟨120, 1⟩] 9 .copy with readers := Vector.replicate 8 false |>.set 5 true },
    { story 0x44 [⟨130, 1⟩] 9 .edit with editHolder := some 4, waiters := [⟨5, 45⟩] },
    { Entry.free with use := .damaged 9 },
    { story 0x46 [] 0 .ready with editHolder := some 6 }] ++ List.replicate 106 Entry.free

/-- A volume with that catalogue. -/
def volumeA : Volume where
  name := List.replicate 8 0x41
  serial := 7
  generation := 41
  stale := false
  nextRender := []
  flushList := []
  entries := entriesA
  marks := systemMarks ||| marksOf [⟨100, 2⟩, ⟨110, 1⟩, ⟨120, 1⟩, ⟨130, 1⟩]
  freeCount := 2290
  cursor := 300

/-- A drive at rest in a status. -/
def restingDrive (v : VolumeStatus) : Drive :=
  { Drive.reset with status := v, doorLock := v.locksDoor, ready := v != .none, cylinder := some 5 }

/-- An up line in a frame. -/
def upLine : LineUnit :=
  { LineUnit.reset with state := .upIdle, receiver := .inFrame, silence := some 8, deskReady := true }

/-- Lines 0 to 6 up, line 7 DOWN; the catalogue on drive 1, drive 2 FOREIGN, drive 3 FAULTED. -/
def base : State :=
  ((((((((((((allLines.foldl (fun t l => t.setLine l upLine) State.reset).setLine 7 LineUnit.reset).setDrive 1
    (restingDrive .mounted)).setVolume 1 (some volumeA)).setDrive 2 (restingDrive .foreign)).setDrive 3
    { restingDrive .faulted with fault := some ⟨.write, .noVolume⟩ }).setHandle 2 0 (.edit 1 0)).setHandle 3 0
    (.edit 1 1)).setHandle 4 0 (.edit 1 3)).setHandle 5 0 (.waiting 1 3)).setHandle 5 1 (.read 1 2)).setHandle 5 2
    (.lost 1 2 .read)).setHandle 6 0 (.edit 1 5)

/-- The same with drive 1 in a status. -/
def inStatus (v : VolumeStatus) : State := base.onDrive 1 fun x => { x with status := v, doorLock := v.locksDoor }

/-- The same with line 2 in a state. -/
def lineIn (v : LineState) : State := base.onLine 2 fun x => { x with state := v }

/-- A drive that runs a job. -/
def working (d : DriveNo) (v : VolumeStatus) (h : HeadStatus) (b : Buffer) (j : Job) : State :=
  { base.onDrive d fun x => { x with status := v, doorLock := v.locksDoor, head := h, buffer := b } with
    channel := ⟨some (d, j), d⟩ }

/-- A command answers a next state that passes a test. -/
def after (i : Instr) (s : State) (p : State → Bool) : Bool :=
  match exec i s with
  | .next t => p t
  | _ => false

/-- The outcome and results of the answer in a line's answer slot. -/
def answered (l : LineNo) (oc : Outcome) (results : List Byte) (t : State) : Bool :=
  match (t.line l).answerSlot with
  | some a => a.outcome == oc && a.results == results
  | none => false

/-- A track of fifteen sectors with one DIRTY. -/
def oneDirty : List SectorRecord := .dirty zeroSector :: List.replicate 14 (.clean zeroSector)

/-! ## Ill-formed commands -/

theorem test_wf_refuses_long_frame : (Instr.frameEnd 0 (.octets (List.replicate 527 0) 0)).wf = false := by decide +kernel
theorem test_wf_refuses_spare_bits : (Instr.frameEnd 0 (.octets [] 8)).wf = false := by decide +kernel
theorem test_wf_refuses_qualifier : (Instr.find 0 0 4 (slugOf 0x41)).wf = false := by decide +kernel
theorem test_wf_refuses_slug : (Instr.find 0 0 255 (slugOf 0x61)).wf = false := by decide +kernel
theorem test_wf_refuses_drive : (Instr.volume 0 0 4).wf = false := by decide +kernel
theorem test_wf_refuses_slot : (Instr.list 0 0 0 112).wf = false := by decide +kernel
theorem test_wf_refuses_handle : (Instr.close 0 0 0).wf = false ∧ (Instr.close 0 0 5).wf = false := by decide +kernel
theorem test_wf_refuses_flag : (Instr.release 0 0 0 2).wf = false := by decide +kernel
theorem test_wf_refuses_count :
    (Instr.write 0 0 1 0 0 0 []).wf = false ∧ (Instr.write 0 0 1 0 513 0 (List.replicate 513 0)).wf = false := by
  decide +kernel
theorem test_wf_refuses_data_length : (Instr.write 0 0 1 0 2 0 [0]).wf = false := by decide +kernel
theorem test_wf_refuses_tail : (Instr.trim 0 0 1 0 513).wf = false := by decide +kernel
theorem test_wf_refuses_stage : (Instr.stage 0 0 1 5).wf = false := by decide +kernel
theorem test_wf_refuses_mask : (Instr.mask 0 0 512).wf = false := by decide +kernel
theorem test_wf_refuses_name : (Instr.format 0 0 0 (List.replicate 8 0x1F) 0).wf = false := by decide +kernel
theorem test_wf_refuses_header :
    (Instr.indexPulse 0 0 (.frames [⟨⟨false, [0]⟩, .notFound⟩])).wf = false := by decide +kernel
theorem test_wf_refuses_data_field :
    (Instr.indexPulse 0 0 (.frames [⟨⟨true, []⟩, .field [0] 8⟩])).wf = false := by decide +kernel
theorem test_wf_refuses_written_header :
    (Instr.flushSectorWritten 0 ⟨false, headerOctets 3 1 ++ [0]⟩).wf = false ∧ (Instr.flushSectorWritten 0 ⟨false, []⟩).wf = false := by
  decide +kernel
theorem test_wf_refuses_seven_ones : (Instr.frameEnd 0 (.bits (List.replicate 7 true))).wf = false := by decide +kernel
theorem test_wf_admits :
    (Instr.find 0 0 255 (slugOf 0x41)).wf ∧ (Instr.write 0 0 4 0 512 1 (List.replicate 512 0)).wf ∧
      (Instr.mask 0 0 511).wf ∧ (Instr.trim 0 0 1 0 512).wf ∧ (Instr.stage 0 0 1 4).wf ∧ (Instr.drop 0 0 3 111).wf := by
  decide +kernel

/-! ## The spec's worked examples -/

/-- The check octets of R6 for the characters 1 to 9. -/
theorem test_check_octets :
    checkMedium [0x31, 0x32, 0x33, 0x34, 0x35, 0x36, 0x37, 0x38, 0x39] = [0x29, 0xB1] ∧
      checkLine [0x31, 0x32, 0x33, 0x34, 0x35, 0x36, 0x37, 0x38, 0x39] = [0x91, 0x6F] := by decide +kernel

/-- Sector numbering and index mapping of the entry example of 1.2. -/
theorem test_sector_numbering :
    trackOf 213 = 14 ∧ sectorOf 213 = 4 ∧ cylinderOf 14 = 7 ∧ sideOf 14 = 0 ∧ lsnOf 7 0 4 = 213 ∧
      lsnOfIndex [⟨40, 10⟩, ⟨212, 3⟩] 11 = some 213 ∧ lsnOfIndex [⟨40, 10⟩, ⟨212, 3⟩] 13 = none := by decide +kernel

/-- FIRE-MAIN of 1.2. -/
def fireMain : Entry :=
  { Entry.free with
    use := .live
    stage := .edit
    slug := [0x46, 0x49, 0x52, 0x45, 0x2D, 0x4D, 0x41, 0x49, 0x4E, 0x20, 0x20, 0x20]
    extents := [⟨40, 10⟩, ⟨212, 3⟩]
    tail := 318
    revision := 7
    lastWriter := some 3 }

/-- The octets of its slot. -/
theorem test_slot_octets :
    (slotOctets fireMain).take 26 =
      [1, 1, 0x46, 0x49, 0x52, 0x45, 0x2D, 0x4D, 0x41, 0x49, 0x4E, 0x20, 0x20, 0x20, 2, 3, 0x01, 0x3E, 0x00, 0x07, 0x00, 0x28,
        0x0A, 0x00, 0xD4, 0x03] ∧ (slotOctets fireMain).length = 64 := by decide +kernel

/-- A flag, an octet of ones with its inserted zero, and a flag. -/
theorem test_frame_bits :
    frameBits [0xFF] =
      [false, true, true, true, true, true, true, true, false, true, true, true, true, true, true, false, true, true, false, true,
        true, true, true, true, true, true, false] := by decide +kernel

/-- The lengths of the READ exchange of 1.5. -/
theorem test_read_exchange :
    (frameOctets 0x06 0x2C [0x02, 0x0C]).take 6 = [0x06, 0x2C, 0x00, 0x02, 0x02, 0x0C] ∧
      (frameOctets 0x06 0x2C [0x02, 0x0C]).length = 8 ∧
      (Answer.octets ⟨0x2C, .done, 0, octets2 318 ++ List.replicate 318 0⟩).length = 328 := by decide +kernel

/-- The first two appends of the example of 4.3. -/
theorem test_append_example :
    let v : Volume :=
      { volumeA with
        marks := systemMarks ||| marksOf [⟨240, 4⟩, ⟨244, 7⟩], cursor := 260, freeCount := 1900
        entries := story 0x53 [⟨240, 4⟩] 512 .edit :: List.replicate 111 Entry.free }
    (match v.allocateAppend 0 with
      | .ok w =>
        (w.entry 0).extents == [⟨240, 4⟩, ⟨260, 1⟩] && w.cursor == 261 && w.freeCount == 1899 &&
          (match w.allocateAppend 0 with
            | .ok u => (u.entry 0).extents == [⟨240, 4⟩, ⟨260, 2⟩] && u.cursor == 261 && u.freeCount == 1898
            | .error _ => false)
      | .error _ => false) = true := by decide +kernel

/-- The clamped setup of 9.5, its dirty age being the greatest an octet holds. -/
theorem test_setup_example :
    (Setup.clamped ⟨1, 25, 6, 255, 9, 120, 8⟩).octets = [2, 25, 6, 240, 6, 0x00, 0x78, 8] := by decide +kernel

/-- An empty track 0 as FORMAT writes it loads, and a track of zeros does not. -/
theorem test_mount_load :
    (loadVolume ((formatContents (List.replicate 8 0x41) 7 154).map .clean)).isSome = true ∧
      loadVolume ((formatContents (List.replicate 8 0x41) 7 0).map .clean) = none := by decide +kernel

/-- A sync the data mark does not follow is passed over, and the field after the next one is read (R9). -/
theorem test_later_data_mark :
    findDataMark dataWindow (oneCells 16 ++ syncCells ++ fieldCells [0x00] ++ oneCells 16 ++ syncCells ++ fieldCells [dataMark]) =
      some (fieldCells [dataMark]) := by decide +kernel

/-- A laid revolution is as long as its two index pulses are apart, and ends in one-cells (R7, R8). -/
theorem test_laid_turn :
    (laidCells 3 [] 600).length = 600 ∧ (laidCells 3 [] 600).all id = true ∧ (laidCells 3 [] 100).length = 100 := by
  decide +kernel

/-- A rewrite leaves the 32 cells after the header and writes the cells that follow (R10). -/
theorem test_rewrite_waits :
    ((WriteBurst.rewrite 3 1 []).output.take 33) = List.replicate 32 none ++ [some true] ∧
      cellsAfter [false, false, true] [none, some true] = [false, true, true] := by decide +kernel

/-! ## One step of each family -/

theorem test_step_takes_the_front :
    (match step { base with pending := [.clear 0 1, .halt 0 2] } with
      | .next t => t.pending == [.halt 0 2] && answered 0 .idle [] t
      | _ => false) = true := by decide +kernel

theorem test_find : after (.find 0 1 255 (slugOf 0x41)) base (answered 0 .done [1, 0, 1, 2, 2, 0, 0, 0, 2, 0, 0, 0]) = true := by
  decide +kernel

theorem test_create : after (.create 0 1 1 (slugOf 0x5A)) base (answered 0 .done [1, 6, 0]) = true := by decide +kernel

theorem test_create_down_line : after (.create 7 1 1 (slugOf 0x41)) base (answered 7 .duplicate []) = true := by decide +kernel

theorem test_stage_wrong : after (.stage 2 1 1 3) base (answered 2 .wrongStage []) = true := by decide +kernel

theorem test_purge : after (.purge 3 1 1) base (fun t => answered 3 .done [] t && t.entry 1 1 == Entry.free) = true := by
  decide +kernel

theorem test_open_waits :
    after (.openStory 1 1 255 (slugOf 0x44) 1 1) base (fun t =>
      answered 1 .queued [1, 1, 3] t && (t.entry 1 3).waiters == [⟨5, 45⟩, ⟨1, 45⟩]) = true := by decide +kernel

theorem test_close_grants :
    after (.close 4 1 1) base (fun t =>
      answered 4 .done [] t && t.handle 5 0 == .edit 1 3 && (t.line 5).notices == [.granted 0 1 3]) = true := by decide +kernel

theorem test_read_begins_a_seek :
    after (.read 2 1 1 1) base (fun t =>
      (t.line 2).state == .upBusy && (t.drive 1).head == .seek && (t.drive 1).motion == .seeking 3 2 6 20) = true := by
  decide +kernel

theorem test_write_of_locked_text : after (.write 6 1 1 0 1 0 [0]) base (answered 6 .stageLocked []) = true := by
  decide +kernel

theorem test_trim :
    after (.trim 2 1 1 1 7) base (fun t =>
      answered 2 .done [] t && (t.entry 1 0).extents == [⟨100, 1⟩] && (t.entry 1 0).tail == 7) = true := by decide +kernel

theorem test_copy_to_protected :
    after (.copy 2 1 1 1 (slugOf 0x5A)) (base.onDrive 1 fun x => { x with protect := true }) (answered 2 .writeProtected []) =
      true := by decide +kernel

theorem test_not_permitted : after (.mount 1 1 2) base (answered 1 .notPermitted []) = true := by decide +kernel

theorem test_mount : after (.mount 0 1 2) base (fun t => answered 0 .done [] t && (t.drive 2).status == .spinUp) = true := by
  decide +kernel

theorem test_release :
    after (.releaseButton 1) base (fun t =>
      (t.drive 1).status == .releasing && (t.handle 5 0) == .free &&
        (t.line 5).notices == [.withdrawn 0 1 3, .releasePending 1 2]) = true := by decide +kernel

theorem test_wait_expires :
    after (.waitTimerExpiry 5 0) base (fun t => (t.line 5).notices == [.expired 0 1 3] && (t.entry 1 3).waiters == []) =
      true := by decide +kernel

theorem test_silence_commits :
    after (.silenceTimerExpiry 2) base (fun t =>
      (t.line 2).state == .down && (t.entry 1 0).revision == 1 && (t.entry 1 0).lastWriter == some 2) = true := by
  decide +kernel

/-- Desk 4 holds two entries on which desk 5 waits. -/
def twoGrants : State :=
  ((((base.onEntry 1 2 fun e => { e with editHolder := some 4, waiters := [⟨5, 45⟩] }).setHandle 5 3 (.waiting 1 2)).setHandle 4 1
    (.edit 1 3)).setHandle 4 0 (.edit 1 2))

/-- The grants of one line going DOWN come to one desk in ascending number of its handles (R190). -/
theorem test_grants_ascending :
    after (.silenceTimerExpiry 4) twoGrants (fun t => (t.line 5).notices == [.granted 0 1 3, .granted 3 1 2]) = true := by
  decide +kernel

theorem test_write_protect_level :
    after (.readyRise 2 true) base (fun t => (t.drive 2).writeProtect && !(t.drive 2).protect && (t.drive 2).status == .foreign) =
      true := by decide +kernel

theorem test_index_timeout :
    after (.indexTimeout 1) base (fun t =>
      (t.drive 1).status == .faulted && (t.line 0).notices == [.fault 1 .speed .mountedVolume]) = true := by decide +kernel

theorem test_ready_fall :
    after (.readyFall 1) base (fun t =>
      (t.volume 1).isNone && t.handle 2 0 == .lost 1 0 .edit && (t.line 2).notices == [.lost 1 1, .gone 1 0]) = true := by
  decide +kernel

/-! ## What meets the hypotheses of the statements -/

/-- The requests on lines of the small state are taken at once: an up line, the DOWN line, and line 0. -/
theorem witness_ready : Ready base 0 ∧ Ready base 2 ∧ Ready base 7 := by
  unfold Ready Quiet LineOpen LineFree; decide +kernel

theorem witness_Sound : Sound base := by
  unfold Sound Drive.Sound LineUnit.Sound LineUnit.DownIsEmpty Setup.InRange; decide +kernel

theorem witness_HardwareReset : (base.drive 0).ready = false ∧ (base.drive 1).ready = true := by decide +kernel

theorem witness_FrameOctets : (List.replicate 520 (0 : Byte)).length ≤ 520 ∧ ([] : List Byte).length ≤ 520 := by decide +kernel

/-- A line with its receive slot full. -/
def fullLine : LineUnit := { upLine with receiveSlot := some ⟨requestFrame 0x0E 0 [], true⟩ }

theorem witness_FrameEnd_hunting : (base.line 7).receiver = .hunting := by decide +kernel
theorem witness_FrameEnd_full :
    ((base.setLine 2 fullLine).line 2).receiver = .inFrame ∧ ¬(([] : List Byte) = [] ∧ 1 = 0) ∧
      ((base.setLine 2 fullLine).line 2).receiveSlot ≠ none := by decide +kernel
theorem witness_FrameEnd_good :
    ¬(frameOctets 0x0E 0 [] = [] ∧ 0 = 0) ∧ goodFrame (frameOctets 0x0E 0 []) 0 = true ∧ (base.line 2).receiver = .inFrame ∧
      (base.line 2).receiveSlot = none ∧ (base.line 2).state ≠ .down ∧
      ∃ s : State, (s.line 2).receiver = .inFrame ∧ (s.line 2).receiveSlot = none ∧ (s.line 2).state = .down := by
  refine ⟨by decide +kernel, by decide +kernel, by decide +kernel, by decide +kernel, by decide +kernel, lineIn .down, ?_⟩
  decide +kernel
theorem witness_FrameEnd_bad :
    ¬(([0, 0, 0, 0, 0, 0] : List Byte) = [] ∧ 0 = 0) ∧ goodFrame [0, 0, 0, 0, 0, 0] 0 = false ∧
      goodFrame (frameOctets 0x0E 0 []) 1 = false := by decide +kernel

theorem witness_FrameTooLong :
    (base.line 2).receiver = .inFrame ∧ (base.line 2).state ≠ .down ∧ ((lineIn .down).line 2).receiver = .inFrame ∧
      ((lineIn .down).line 2).state = .down := by decide +kernel

theorem witness_FrameSent :
    ((base.onLine 2 fun x => { x with sending := some .answer }).line 2).sending = some .answer ∧
      ((base.onLine 2 fun x => { x with sending := some .notice }).line 2).sending = some .notice := by decide +kernel

theorem witness_Silence : (base.line 2).silence ≠ none := by decide +kernel

theorem witness_NoticeOffered :
    LineUnit.reset.state = .down ∧ upLine.state ≠ .down ∧
      ({ upLine with mask := 0 } : LineUnit).mask.getLsbD ((Notice.gone 0 0).code - 1) = false ∧
      upLine.mask.getLsbD ((Notice.granted 0 0 0).code - 1) = true ∧
      upLine.mask.getLsbD ((Notice.fault 0 .speed .noVolume).code - 1) = true ∧
      6 ≤ ({ upLine with notices := List.replicate 6 (.gone 0 0) } : LineUnit).notices.length ∧
      ({ upLine with notices := List.replicate 5 (.gone 0 0) } : LineUnit).notices.length < 6 := by decide +kernel

theorem witness_CommonChecks :
    (base.line 1).receiver = .inFrame ∧ isRequestKind 0x11 = false ∧ isRequestKind 0x1A = true ∧
      parseRequest (requestFrame 0x1A 0 [4]) = none ∧ parseRequest (requestFrame 0x1A 0 [3]) = some (.mount 3) ∧
      (Request.mount 3).supervisorOnly = true ∧ (1 : LineNo) ≠ 0 := by decide +kernel
theorem witness_CommonChecks_held :
    Quiet (lineIn .held) ∧ LineFree (lineIn .held) 2 ∧ ((lineIn .held).line 2).state = .held ∧
      ((lineIn .held).line 2).receiver = .inFrame ∧ parseRequest (requestFrame 0x0C 0 []) = some .halt := by
  unfold Quiet LineFree; decide +kernel
theorem witness_CommonChecks_busy :
    Quiet (lineIn .upBusy) ∧ LineFree (lineIn .upBusy) 2 ∧ ((lineIn .upBusy).line 2).state = .upBusy ∧
      ((lineIn .upBusy).line 2).receiver = .inFrame ∧ parseRequest (requestFrame 0x0D 0 []) = some .clear := by
  unfold Quiet LineFree; decide +kernel

theorem witness_HandleCheck :
    Ready base 5 ∧ handleOperand 1 = some 0 ∧ handleOperand 4 = some 3 ∧ base.handle 5 3 = .free ∧
      base.handle 5 0 = .waiting 1 3 ∧ base.handle 5 1 = .read 1 2 ∧ base.handle 5 2 = .lost 1 2 .read ∧
      Stage.ofCode 4 ≠ none ∧ driveOperand 3 ≠ none ∧ slugWellFormed (slugOf 0x41) = true ∧ flagOperand 1 ≠ none ∧
      writeWf 512 (List.replicate 512 0) = true ∧ (512 : Word16).toNat ≤ 512 := by
  unfold Ready Quiet LineOpen LineFree; decide +kernel

theorem witness_VolumeChecks :
    driveOperand 3 = some 3 ∧ (base.drive 3).status = .faulted ∧ driveOperand 2 = some 2 ∧ (base.drive 2).status ≠ .faulted ∧
      base.volume 2 = none ∧ slotWf 111 = true ∧ flagWf 1 = true := by decide +kernel

theorem witness_Find :
    qualifierOperand 255 = some none ∧ base.resolve none (slugOf 0x41) = some (1, 0) ∧ qualifierOperand 1 = some (some 1) ∧
      base.resolve (some 1) (slugOf 0x43) = some (1, 2) ∧ (base.drive 1).status ≠ .faulted := by decide +kernel

theorem witness_List :
    driveOperand 1 = some 1 ∧ slotOperand 111 = some 111 ∧ slotOperand 0 = some 0 ∧ base.volume 1 = some volumeA := by
  decide +kernel

theorem witness_Create :
    (base.drive 1).status ≠ .releasing ∧ base.volume 1 ≠ none ∧ (base.drive 1).protect = false ∧ base.freeHandle 2 = some 1 ∧
      base.duplicate 1 (slugOf 0x5A) = false ∧ base.freeSlot 1 = some 6 ∧ slugWellFormed (slugOf 0x5A) = true := by
  decide +kernel

theorem witness_Stage :
    Stage.ofCode 2 = some .ready ∧ base.handle 2 0 = .edit 1 0 ∧ stageMove (base.entry 1 0).stage .ready = some false ∧
      stageMove .set .edit = some true := by decide +kernel

theorem witness_PurgeAndDrop :
    Ready base 3 ∧ base.handle 3 0 = .edit 1 1 ∧ (base.entry 1 1).stage = .spiked ∧ (base.entry 1 1).usedByOther 3 = false ∧
      (base.entry 1 1).copyReaders = 0 ∧ slotOperand 4 = some 4 ∧ (base.entry 1 4).use = .damaged 9 ∧
      ∃ s : State, Ready s 0 ∧ (s.entry 1 2).use = .live ∧ (s.entry 1 2).claimed = false ∧ (s.entry 1 2).copyReaders = 0 ∧
        (s.drive 1).protect = false ∧ (s.drive 1).status ≠ .faulted ∧ s.volume 1 ≠ none := by
  unfold Ready Quiet LineOpen LineFree
  refine ⟨by decide +kernel, by decide +kernel, by decide +kernel, by decide +kernel, by decide +kernel, by decide +kernel,
    by decide +kernel, base.onEntry 1 2 fun e => { e with readers := Vector.replicate 8 false }, ?_⟩
  decide +kernel

theorem witness_Open :
    Ready base 1 ∧ base.alreadyOpen 1 1 0 = false ∧ base.freeHandle 1 = some 0 ∧ flagWf 0 = true ∧ flagWf 1 = true ∧
      (base.entry 1 0).editHolder ≠ none ∧ base.resolve none (slugOf 0x43) = some (1, 2) ∧
      (base.entry 1 2).editHolder = none ∧ base.alreadyOpen 1 1 2 = false := by
  unfold Ready Quiet LineOpen LineFree; decide +kernel

theorem witness_Close_unchanged :
    Ready base 4 ∧ Ready base 6 ∧ base.handle 6 0 = .edit 1 5 ∧ (base.entry 1 5).changed = false ∧
      (base.entry 1 5).waiters = [] ∧ base.handle 4 0 = .edit 1 3 ∧ (base.entry 1 3).changed = false ∧
      (base.entry 1 3).waiters = [⟨5, 45⟩] ∧ base.handleThat 5 (.waiting 1 3) = some 0 := by
  unfold Ready Quiet LineOpen LineFree; decide +kernel

theorem witness_Close_commits :
    base.handle 2 0 = .edit 1 0 ∧ (base.entry 1 0).changed = true ∧ (base.entry 1 0).waiters = [] := by decide +kernel

theorem witness_Break :
    driveOperand 1 = some 1 ∧ slotOperand 0 = some 0 ∧ (base.entry 1 0).use = .live ∧ (base.entry 1 0).editHolder = some 2 ∧
      base.handleThat 2 (.edit 1 0) = some 0 := by decide +kernel

theorem witness_Read_and_Write :
    base.handle 2 0 = .edit 1 0 ∧ (base.entry 1 0).lsn 1 = some 101 ∧ flagOperand 0 = some false ∧
      writeWf 512 (List.replicate 512 0) = true ∧ writeWf 1 [0] = true ∧ (base.entry 1 0).stage.locked = false ∧
      1 + 1 = (base.entry 1 0).length := by decide +kernel

theorem witness_Append :
    2 = (volumeA.entry 0).length ∧ 512 ≤ (volumeA.entry 0).tail ∧
      (match volumeA.allocateAppend 0 with
        | .ok w => (w.entry 0).extents == [⟨100, 3⟩]
        | .error _ => false) = true := by decide +kernel

theorem witness_Trim :
    (0 : Byte).toNat < (base.entry 1 0).length ∧ (1 : Byte).toNat < (base.entry 1 0).length ∧ ((0 : Byte).toNat = 0 ↔ (0 : Word16).toNat = 0) ∧
      ((1 : Byte).toNat = 0 ↔ (512 : Word16).toNat = 0) ∧ (base.entry 1 0).copyReaders = 0 := by decide +kernel
theorem witness_TrimKeeps : (0 : SlotNo).val < volumeA.entries.length ∧ 2 ≤ (volumeA.entry 0).length := by decide +kernel

theorem witness_Extension :
    (volumeA.entry 0).extents = [] ++ [⟨100, 2⟩] ∧ 100 + 2 < 2310 ∧ volumeA.marks.getLsbD 102 = false := by decide +kernel
theorem witness_NewExtent :
    (volumeA.entry 5).extents.length < 14 ∧ volumeA.cursor < 2310 ∧ (volumeA.entry 5).extents = [] ∧
      searchFree volumeA.marks (2310 - 15) volumeA.cursor = some 300 := by decide +kernel
/-- The wrap at the end of the data area, and a last extent that is blocked. -/
theorem witness_NewExtent_edge :
    let v : Volume := { volumeA with marks := volumeA.marks ||| marksOf [⟨102, 1⟩], cursor := 2309 }
    v.marks.getLsbD (100 + 2) = true ∧ searchFree v.marks (2310 - 15) v.cursor = some 2309 := by decide +kernel

theorem witness_Copy :
    base.freeContext = some 0 ∧ base.freeSlot 1 = some 6 ∧ base.duplicate 1 (slugOf 0x5A) = false ∧
      0 < (base.entry 1 0).length ∧
      (match volumeA.allocateCopy (base.entry 1 0).length with
        | .ok r => r.1 == [⟨300, 2⟩]
        | .error _ => false) = true := by decide +kernel

/-- Line 2 busy with a READ whose item waits behind a begun one. -/
def readWaits : State :=
  ((lineIn .upBusy).onDesk 2 fun k => { k with outstanding := some ⟨.read, 7⟩ }).onDrive 1 fun x =>
    { x with head := .seek, queue := [⟨.catalogueWrite, true⟩, ⟨.sectorRead 2 0 0 0 100, false⟩] }

theorem witness_Halt :
    Quiet readWaits ∧ LineFree readWaits 2 ∧ (readWaits.line 2).state = .upBusy ∧
      (readWaits.desk 2).outstanding = some ⟨.read, 7⟩ ∧
      (readWaits.drive 1).queue.any (fun i => i.waitingRead 2) = true ∧ (base.desk 2).outstanding = none := by
  unfold Quiet LineFree; decide +kernel

theorem witness_Clear :
    ((lineIn .held).line 2).state = .held ∧ (base.line 2).state = .upIdle ∧ (base.line 7).state = .down ∧
      ((lineIn .upBusy).line 2).state = .upBusy := by decide +kernel

theorem witness_Volume : base.volume 1 = some volumeA ∧ volumeA.name.length = 8 ∧ (511 : Word16).toNat < 512 := by
  decide +kernel

theorem witness_Setup :
    (∀ d, (base.drive d).active = false) ∧ Ready (base.onDrive 0 fun x => { x with status := .spinUp }) 0 ∧
      ((base.onDrive 0 fun x => { x with status := .spinUp }).drive 0).active = true := by
  unfold Ready Quiet LineOpen LineFree; decide +kernel

theorem witness_statuses :
    ∀ v ∈ [VolumeStatus.none, .spinUp, .mounting, .mounted, .releasing, .formatting, .foreign, .unlocked, .faulted],
      Ready (inStatus v) 0 ∧ ((inStatus v).drive 1).status = v := by
  unfold Ready Quiet LineOpen LineFree; decide +kernel

theorem witness_Ready_line : (base.drive 0).status = .none ∧ (base.drive 1).status ≠ .none := by decide +kernel

theorem witness_Pulse : (⟨2, 0, true⟩ : Measurement).seen = true ∧ (161700 : Nat) ≤ 171700 ∧ (171701 : Nat) > 171700 := by
  decide +kernel

/-- Drive 1 in SPIN-UP after two good periods. -/
def spinning : State := (inStatus .spinUp).onDrive 1 fun x => { x with measurement := ⟨2, 0, true⟩, spinUpTimer := true }

theorem witness_ThirdPeriod :
    (spinning.drive 1).ready = true ∧ (spinning.drive 1).status = .spinUp ∧ (spinning.drive 1).measurement.seen = true ∧
      (spinning.drive 1).measurement.good = 2 ∧ (spinning.drive 1).spinUpTimer = true := by decide +kernel

theorem witness_Faults :
    let s := working 1 .releasing (.run .flush) (.opened 3 oneDirty []) (.flush 3 [1] 0)
    let t := working 1 .formatting (.run .lay) .empty (.lay 3 true)
    (s.drive 1).status = .releasing ∧ (s.drive 1).head = .run .flush ∧ (s.drive 1).buffer = .opened 3 oneDirty [] ∧
      (t.drive 1).status = .formatting ∧ (t.drive 1).head = .run .lay := by decide +kernel

theorem witness_Seek :
    let s := base.onDrive 1 fun x => { x with head := .seek, motion := .seeking 3 2 6 20, goal := some 6 }
    (s.drive 1).status = .mounted ∧ (s.drive 1).motion = .seeking 3 2 6 20 ∧ (s.drive 1).goal = some 6 ∧
      s.channel.holder = none ∧ ({ s with channel := ⟨some (2, .lay 0 true), 2⟩ } : State).channel.holder ≠ none := by
  decide +kernel

theorem witness_Recalibration :
    let s := (inStatus .mounting).onDrive 1 fun x => { x with head := .seek, motion := .recalibrating 6 20, goal := some 0 }
    (s.drive 1).status = .mounting ∧ (s.drive 1).head = .seek ∧ (s.drive 1).motion = .recalibrating 6 20 ∧
      (s.drive 1).goal = some 0 ∧ s.channel.holder = none := by decide +kernel

theorem witness_Arbiter :
    let s := (base.onDrive 2 fun x => { x with head := .wait .lay })
    (∀ d, (base.drive d).head.waits = false) ∧ (s.drive 2).head = .wait .lay ∧ s.channel.lastGranted = 3 ∧
      ∀ k : Fin 4, k.val < ((2 : DriveNo) - s.channel.lastGranted - 1).val →
        (s.drive (s.channel.lastGranted + 1 + k)).head.waits = false := by decide +kernel

theorem witness_RenderedSlot :
    (∀ e : Entry, e = fireMain ∨ e = { fireMain with extents := [], tail := 0, lastWriter := none } ∨
        e = { fireMain with extents := [⟨15, 95⟩, ⟨2309, 1⟩], tail := 512 } →
      e.use = .live ∧ slugWellFormed e.slug = true ∧ e.extents.length ≤ 14 ∧ e.extents.all extentInData = true ∧
        extentsApart 0 e.extents = true ∧ e.length ≤ 96 ∧ e.tail ≤ 512 ∧ (e.tail = 0 ↔ e.length = 0)) ∧
      Entry.free.use ≠ .live := by
  refine ⟨?_, by decide⟩
  rintro e (rfl | rfl | rfl) <;> decide +kernel

theorem witness_AnswersAndNotices :
    (readWaits.desk 2).outstanding = some ⟨.read, 7⟩ ∧ (readWaits.line 2).state ≠ .down ∧ (readWaits.line 2).answerSlot = none ∧
      ({ upLine with answerSlot := some ⟨1, .done, 0, []⟩ } : LineUnit).answerSlot ≠ none ∧ upLine.sending = none ∧
      upLine.state ≠ .down ∧ upLine.deskReady = true ∧ upLine.answerSlot = none ∧
      ({ upLine with notices := [.gone 0 0] } : LineUnit).notices ≠ [] ∧ upLine.notices = [] := by decide +kernel

/-- The header field of a sector. -/
def headerField (track sector : Nat) : HeaderField := ⟨false, headerOctets track sector⟩

theorem witness_SectorWritten :
    let s := working 1 .mounted (.run .flush) (.opened 3 oneDirty [2]) (.flush 3 [1, 2] 0)
    s.channel.holder = some (1, .flush 3 [1, 2] 0) ∧ headerSeen (headerField 3 1) (3 % 2) = true ∧
      (octetAt (headerField 3 1).octets 1).toNat = 3 / 2 ∧ (octetAt (headerField 3 1).octets 3).toNat = 1 ∧ 1 ∈ [1, 2] ∧
      (octetAt (headerField 3 5).octets 3).toNat ∉ [1, 2] ∧ (octetAt (headerField 5 1).octets 1).toNat ≠ 3 / 2 ∧
      (s.drive 1).status = .mounted ∧ (s.drive 1).unloading = false ∧ (s.drive 1).buffer = .opened 3 oneDirty [2] ∧
      oneDirty[1 - 1]? = some (.dirty zeroSector) ∧ [1, 2].filter (· != 1) ≠ [] ∧ [1].filter (· != 1) = [] := by decide +kernel

/-- The volume in drive 1 with no handle on it, its track OPEN. -/
def unclaimed : State :=
  (allLines.foldl (fun t l => allHandles.foldl (fun t h => t.setHandle l h .free) t) base).onDrive 1 fun x =>
    { x with head := .opened, buffer := .opened 3 oneDirty [], unloadCount := some 0 }

theorem witness_Format :
    nameWellFormed (List.replicate 8 0x7E) = true ∧ (base.drive 2).status = .foreign ∧ (base.drive 2).protect = false ∧
      base.volume 2 = none ∧ (base.drive 2).cylinder = some 5 ∧ (base.drive 2).head = .unloaded ∧
      Ready (base.onDrive 2 fun x => { x with cylinder := none, status := .unlocked }) 0 ∧
      Ready (base.onDrive 2 fun x => { x with protect := true }) 0 := by
  unfold Ready Quiet LineOpen LineFree; decide +kernel
theorem witness_Format_mounted :
    Ready unclaimed 0 ∧ (unclaimed.drive 1).status = .mounted ∧ (unclaimed.drive 1).protect = false ∧
      unclaimed.volume 1 = some volumeA ∧ volumeA.nextRender = [] ∧ volumeA.flushList = [] ∧
      ¬((∃ l h, (unclaimed.handle l h).claimDrive = some 1) ∨ (∃ c, (unclaimed.context c).uses 1 = true) ∨
        (unclaimed.drive 1).queue ≠ [] ∨ ((unclaimed.drive 1).head ≠ .opened ∧ (unclaimed.drive 1).head ≠ .unloaded)) ∧
      (base.handle 2 0).claimDrive = some 1 := by
  unfold Ready Quiet LineOpen LineFree; decide +kernel

theorem witness_Recover_and_Discard :
    (base.drive 3).fault = some ⟨.write, .noVolume⟩ ∧ (base.drive 3).recover = none ∧
      ((base.onDrive 3 fun x => { x with fault := some ⟨.seek, .mountedVolume⟩ }).drive 3).fault = some ⟨.seek, .mountedVolume⟩ ∧
      Ready (base.onDrive 3 fun x => { x with fault := some ⟨.seek, .mountedVolume⟩ }) 0 ∧
      Ready (base.onDrive 3 fun x => { x with recover := some .spinCheck }) 0 := by
  unfold Ready Quiet LineOpen LineFree; decide +kernel

/-- Drive 1 turning in a status, its measurement begun. -/
def turning (v : VolumeStatus) (h : HeadStatus) (b : Buffer) (j : Job) : State :=
  (working 1 v h b j).onDrive 1 fun x => { x with ready := true, measurement := ⟨0, 2, true⟩ }

/-- Fifteen sectors without a result. -/
def unread15 : List SectorResult := List.replicate 15 .unread

/-- A reading with one header, of sector 1 of a track, and no data field. -/
def oneHeader (track : Nat) : Reading := .frames [⟨headerField track 1, .notFound⟩]

theorem witness_FillRevolutions :
    let s := turning .mounted (.run .fill) .empty (.fill 3 2 1 unread15)
    (s.drive 1).ready = true ∧ (s.drive 1).measurement.seen = true ∧ (161700 : Nat) ≤ 171700 ∧ (s.drive 1).status = .mounted ∧
      s.channel.holder = some (1, .fill 3 2 (0 + 1) unread15) ∧
      (turning .mounting (.run .fill) .empty (.fill 0 2 0 unread15)).channel.holder = some (1, .fill 0 2 0 unread15) ∧
      (s.drive 1).reseek = false ∧ ((s.onDrive 1 fun x => { x with reseek := true }).drive 1).reseek = true ∧
      unread15.length = 15 ∧ unread15[14]? = some .unread := by decide +kernel
theorem witness_FillRevolutions_frames :
    let seen := fun (r : Reading) => (sectorFrames r).filter fun f => headerSeen f.header (3 % 2)
    seen (oneHeader 5) ≠ [] ∧ (seen (oneHeader 5)).filter (fun f => decide ((octetAt f.header.octets 1).toNat = 3 / 2)) = [] ∧
      (seen (oneHeader 3)).filter (fun f => decide ((octetAt f.header.octets 1).toNat = 3 / 2)) =
        [] ++ ⟨headerField 3 1, .notFound⟩ :: [] ∧ (octetAt (headerField 3 1).octets 3).toNat = 0 + 1 ∧ seen (.frames []) = [] ∧
      (∀ r ∈ List.replicate 15 (SectorResult.good zeroSector), ∃ os, r = .good os) ∧
      ¬((∀ r ∈ unread15, ∃ os, r = .good os) ∨ 2 ≤ 0) := by
  refine ⟨by decide +kernel, by decide +kernel, by decide +kernel, by decide +kernel, by decide +kernel, ?_, ?_⟩
  · intro r hr; exact ⟨zeroSector, (List.mem_replicate.mp hr).2⟩
  · rintro (h | h)
    · obtain ⟨os, ho⟩ := h .unread (List.mem_replicate.mpr ⟨by decide, rfl⟩)
      cases ho
    · exact absurd h (by decide)

theorem witness_FlushAndLay :
    let s := turning .releasing (.run .flush) (.opened 3 oneDirty []) (.flush 3 [1] 1)
    let item : Nat → Bool → WorkItem := fun p halt => ⟨.format (List.replicate 8 0x41) 7 p halt, true⟩
    let t := fun p halt => (turning .formatting (.run .lay) .empty (.lay 3 true)).onDrive 1 fun x => { x with queue := [item p halt] }
    (s.drive 1).status = .releasing ∧ s.channel.holder = some (1, .flush 3 [1] 1) ∧ (s.drive 1).measurement.seen = true ∧
      (turning .mounted (.run .flush) (.opened 3 oneDirty []) (.flush 3 [1] 0)).channel.holder = some (1, .flush 3 [1] 0) ∧
      (s.drive 1).buffer = .opened 3 oneDirty [] ∧
      (∀ p ∈ [0, 9, 153, 154], ∀ halt, ((t p halt).drive 1).queue = [item p halt] ∧ ((t p halt).drive 1).status = .formatting ∧
        (t p halt).channel.holder = some (1, .lay 3 true) ∧ ((t p halt).drive 1).cylinder = some 5) ∧
      (turning .formatting (.run .lay) .empty (.lay 3 false)).channel.holder = some (1, .lay 3 false) ∧ 5 = (9 + 1) / 2 ∧
      5 ≠ (0 + 1) / 2 := by decide +kernel

/-- Drive 1 idle with its track OPEN, DIRTY or not, at a dirty age and an unload count. -/
def idle (b : Buffer) (age count : Option Nat) : State :=
  base.onDrive 1 fun x => { x with head := .opened, buffer := b, dirtyAge := age, unloadCount := count, measurement := ⟨0, 2, true⟩ }

theorem witness_IdleRevolutions :
    let s := idle (.opened 3 oneDirty []) (some 59) (some 11)
    (s.drive 1).ready = true ∧ (s.drive 1).measurement.seen = true ∧ (s.drive 1).status = .mounted ∧ (s.drive 1).head = .opened ∧
      (s.drive 1).queue = [] ∧ (∀ e : Option (DriveNo × Job), e = s.channel.holder → e = none) ∧
      0 < (s.drive 1).buffer.dirtyCount ∧ (s.drive 1).dirtyAge = some 59 ∧ s.setup.dirtyAge ≤ 59 + 1 ∧
      s.setup.unload ≤ 11 + 1 ∧ (s.drive 1).unloadCount = some 11 ∧ ¬(s.setup.dirtyAge ≤ 58 + 1) ∧ ¬(s.setup.unload ≤ 10 + 1) ∧
      ¬(0 < ((idle (.opened 3 (List.replicate 15 (.clean zeroSector)) []) none (some 11)).drive 1).buffer.dirtyCount) := by
  refine ⟨by decide +kernel, by decide +kernel, by decide +kernel, by decide +kernel, by decide +kernel, ?_, by decide +kernel,
    by decide +kernel, by decide +kernel, by decide +kernel, by decide +kernel, by decide +kernel, by decide +kernel,
    by decide +kernel⟩
  rintro e rfl; rfl

theorem witness_BadPeriods :
    let s := idle .empty none none
    (s.drive 1).ready = true ∧ (s.drive 1).measurement = ⟨0, 2, true⟩ ∧ s.popChoice.1 = 0 ∧ (161699 : Nat) < 161700 ∧
      let t := base.onDrive 3 fun x => { x with recover := some .spinCheck, measurement := ⟨2, 0, true⟩ }
      (t.drive 3).ready = true ∧ (t.drive 3).status = .faulted ∧ (t.drive 3).recover = some .spinCheck ∧
        (t.drive 3).measurement.good = 2 := by decide +kernel

/-- The results of a FILL of track 0 as FORMAT leaves it. -/
def formatted0 : List SectorResult := (formatContents (List.replicate 8 0x41) 7 154).map .good

theorem witness_MountLoad :
    let s := turning .mounting (.run .fill) .empty (.fill 0 2 (2 + 1) formatted0)
    (s.drive 1).status = .mounting ∧ (s.drive 1).measurement.seen = true ∧ s.channel.holder = some (1, .fill 0 2 (2 + 1) formatted0) ∧
      (revolutionResults [] formatted0 = formatted0) ∧ (loadVolume (formatted0.map SectorResult.record)).isSome = true ∧
      loadVolume ((revolutionResults [] unread15).map SectorResult.record) = none ∧ (2 : Nat) ≤ 2 := by decide +kernel

/-- The small volume before its bindings are set. -/
def unbound : Volume := { volumeA with entries := entriesA.map fun e => { e with bound := false } }

theorem witness_LoadedVolume :
    (renderTrack (List.replicate 8 0x41) 7 0 entriesA).length = 14 + 1 ∧ unbound.entries.length = 112 ∧
      (unbound.entries.all fun e => !e.bound) = true ∧ (unbound.entries.filter fun e => e.isLive).length = 5 ∧
      ((unbound.entries.filter fun e => e.isLive).map Entry.slug).Nodup := by decide +kernel

/-- Drive 1 in service with a queue. -/
def serving (h : HeadStatus) (b : Buffer) (q : List WorkItem) : State :=
  base.onDrive 1 fun x => { x with head := h, buffer := b, queue := q }

theorem witness_DrivesServe :
    let q : List WorkItem := [⟨.sectorRead 2 0 0 0 100, false⟩]
    (serving .opened (.opened 6 oneDirty []) q).enabledAgents = [.drive 1] ∧ (Work.sectorRead 2 0 0 0 100).track = 6 ∧
      ((serving .opened (.opened 6 oneDirty []) q).drive 1).buffer = .opened 6 oneDirty [] ∧
      0 < ((serving .opened (.opened 3 oneDirty []) q).drive 1).buffer.dirtyCount ∧
      ((serving .unloaded .empty q).drive 1).buffer.dirtyCount = 0 ∧ (serving .unloaded .empty q).setup.dirtyAge ≤ 60 ∧
      (⟨.sectorRead 2 0 0 0 100, false⟩ : WorkItem).isFormat = false := by decide +kernel
theorem witness_DrivesServe_release :
    let s := unclaimed.onDrive 1 fun x => { x with status := .releasing }
    (s.drive 1).status = .releasing ∧ s.noOpenHandles 1 = true ∧ (∀ c, (s.context c).uses 1 = false) ∧ (s.drive 1).queue = [] := by
  decide +kernel

/-- Line 2 busy with a WRITE whose item is served. -/
def writing : State :=
  ((serving .opened (.opened 6 (List.replicate 15 (.clean zeroSector)) []) []).onDesk 2 fun k =>
    { k with outstanding := some ⟨.write, 7⟩ }).onLine 2 fun x =>
      { x with state := .upBusy, receiveSlot := some ⟨requestFrame 0x07 7 (writeBody 1 0 1 1 [9]), true⟩ }

theorem witness_SectorItems :
    (writing.drive 1).buffer = .opened 6 (List.replicate 15 (.clean zeroSector)) [] ∧ (writing.entry 1 0).lsn 0 = some 100 ∧
      (writing.entry 1 0).lsn 1 ≠ some 100 ∧
      (List.replicate 15 (SectorRecord.clean zeroSector))[100 % 15]? = some (.clean zeroSector) ∧
      (writing.line 2).receiveSlot = some ⟨requestFrame 0x07 7 (writeBody 1 0 1 1 [9]), true⟩ ∧ (512 : Nat) ≤ 512 ∧
      (writing.desk 2).outstanding ≠ none := by decide +kernel

theorem witness_CatalogueAndRelease :
    base.volume 1 = some volumeA ∧ volumeA.stale = false ∧
      ((base.setVolume 1 (some { volumeA with stale := true })).volume 1).isSome = true ∧
      ((serving .opened (.opened 0 oneDirty []) [⟨.release, false⟩]).drive 1).buffer = .opened 0 oneDirty [] ∧
      ((serving .opened (.opened 0 oneDirty []) [⟨.release, false⟩]).drive 1).queue = ⟨.release, false⟩ :: [] ∧
      0 < ((serving .opened (.opened 0 oneDirty []) [⟨.release, false⟩]).drive 1).buffer.dirtyCount ∧
      ((serving .unloaded .empty [⟨.release, false⟩]).drive 1).buffer.dirtyCount = 0 := by decide +kernel

/-- A copy from slot 0 to the FILLING slot 6 on drive 1. -/
def copying (phase : CopyPhase) (halt : Bool) (next : Nat) : State :=
  ((serving .opened (.opened 6 (List.replicate 15 (.clean zeroSector)) []) []).onEntry 1 6 fun e =>
    { e with use := .filling, slug := slugOf 0x5A, extents := [⟨300, 2⟩], tail := 512 }).onContext 0 fun x =>
      { x with
        phase := phase, desk := 2, handle := 0, sourceDrive := 1, sourceSlot := 0, destDrive := 1, destSlot := 6, length := 2
        next := next, halt := halt, wanted := true }

theorem witness_CopyItems :
    ((copying .readStep false 0).drive 1).buffer = .opened 6 (List.replicate 15 (.clean zeroSector)) [] ∧
      ((copying .readStep false 0).entry 1 0).lsn 0 = some 100 ∧ ((copying .readStep false 0).entry 1 0).lsn 1 = some 101 ∧
      ((copying .readStep false 0).entry 1 6).lsn 0 = some 300 ∧ ((copying .writeStep false 1).entry 1 6).lsn 1 = some 301 ∧
      ((copying .readStep true 0).context 0).halt = true ∧ ((copying .writeStep false 1).context 0).next + 1 = 2 ∧
      ((copying .writeStep false 0).context 0).next + 1 ≠ 2 ∧ ((copying .writeStep false 0).drive 1).status ≠ .faulted ∧
      (([SectorRecord.bad .code])[0]? = some (.bad .code)) := by decide +kernel

theorem witness_CopiesEnd :
    ((copying .readStep false 0).context 0).uses 1 = true ∧ ((copying .readStep false 0).volume 1).isSome = true ∧
      ((0 : SlotNo) ≠ 6) ∧ ((copying .readStep false 0).entry 1 6).isLive = false ∧
      ((copying .commitWait false 2).context 0).phase = .commitWait := by decide +kernel

/-- A second volume with a story of the same slug, unbound, on drive 2. -/
def twoVolumes : State := (base.setDrive 2 (restingDrive .mounted)).setVolume 2 (some unbound)

theorem witness_EntriesAndVolumesLeave :
    twoVolumes.volume 1 = some volumeA ∧ (0 : SlotNo).val < volumeA.entries.length ∧ (volumeA.entry 0).isLive = true ∧
      (volumeA.entry 0).bound = true ∧ twoVolumes.boundSlot 1 (slugOf 0x41) = some 0 ∧
      twoVolumes.liveSlot 2 (slugOf 0x41) = some 0 ∧ twoVolumes.liveSlot 0 (slugOf 0x41) = none ∧
      (∀ e, twoVolumes.liveSlot e (slugOf 0x5A) = none) := by decide +kernel

theorem witness_ForcedRelease :
    base.handle 5 0 = .waiting 1 3 ∧ base.handle 5 1 = .read 1 2 ∧ (base.drive 1).queue.any WorkItem.isRelease = false ∧
      ((serving .opened .empty [⟨.release, true⟩]).drive 1).queue.any WorkItem.isRelease = true ∧
      (readWaits.drive 1).queue.any (fun i => i.sectorDesk == some 2) = true := by decide +kernel

theorem witness_Search :
    (15 : Nat) ≤ 2309 ∧ (15 + (2309 - 15 + 1) % 2295 = 15) ∧ (0#2310).getLsbD 15 = false ∧
      (∀ n : Fin 2295, (BitVec.allOnes 2310).getLsbD (15 + n) = true) ∧ 96 ≤ volumeA.freeCount ∧
      ¬(96 ≤ ({ volumeA with freeCount := 3 } : Volume).freeCount) := by decide +kernel

theorem witness_RecoverCompletes :
    let s := base.onDrive 3 fun x => { x with recover := some .running, head := .seek, motion := .recalibrating 6 20 }
    let t := (s.onDrive 3 fun x => { x with fault := some ⟨.write, .mountedVolume⟩, buffer := .retained 3 oneDirty })
    (s.drive 3).status = .faulted ∧ (s.drive 3).recover = some .running ∧ (s.drive 3).fault = some ⟨.write, .noVolume⟩ ∧
      (s.drive 3).motion = .recalibrating 6 20 ∧ (t.drive 3).fault = some ⟨.write, .mountedVolume⟩ ∧
      (t.drive 3).buffer = .retained 3 oneDirty ∧ (t.drive 3).head = .seek ∧ (s.drive 3).buffer = .empty ∧ (s.drive 3).queue = [] ∧
      ({ t with channel := ⟨some (3, .flush 3 [1] 0), 3⟩ } : State).channel.holder = some (3, .flush 3 [1] 0) ∧
      headerSeen (headerField 3 1) (3 % 2) = true ∧ octetAt (headerField 3 1).octets 1 = octet (3 / 2) ∧
      (octetAt (headerField 3 1).octets 3).toNat = 1 ∧ oneDirty[1 - 1]? = some (.dirty zeroSector) ∧ 3 / 2 ≠ 0 ∧ 1 / 2 = 0 := by
  decide +kernel

theorem witness_HeadMovements :
    (base.drive 1).cylinder = some 5 ∧ (base.drive 1).head = .unloaded ∧ (base.drive 0).cylinder = none ∧ 11 / 2 = 5 ∧ 5 ≠ 12 / 2 ∧
      (unclaimed.drive 1).head ≠ .unloaded ∧ (base.drive 3).status = .faulted := by decide +kernel

/-! ## The invariants' hypotheses -/

/-- The only volume of `base` is the one in drive 1. -/
theorem base_volumes (d : DriveNo) (v : Volume) (h : base.volume d = some v) : v = volumeA := by
  have hv : ∀ d, base.volume d = if d = 1 then some volumeA else none := by decide +kernel
  rw [hv] at h
  split at h
  · exact (Option.some.inj h).symm
  · cases h

theorem witness_SpaceSound : SpaceSound base := by
  intro d v h
  rw [base_volumes d v h]
  unfold Volume.SpaceSound Entry.SpaceSound
  decide +kernel

theorem witness_ClaimsSound : ClaimsSound base := by
  have hfree : ∀ d slot, (d = 1 ∧ slot.val < 6) ∨ base.entry d slot = Entry.free := by decide +kernel
  have hlive : ∀ slot : Fin 6, (base.entry 1 (slot.castLE (by decide))).ClaimsSound ∧
      ∀ l, ClaimsAgree base l 1 (slot.castLE (by decide)) := by
    unfold Entry.ClaimsSound ClaimsAgree; decide +kernel
  have hnone : ∀ l h, base.handle l h ∈ [Handle.free, .edit 1 0, .edit 1 1, .edit 1 3, .waiting 1 3, .read 1 2,
      .lost 1 2 .read, .edit 1 5] := by
    decide +kernel
  have hcopy : ∀ c, (base.context c).phase = .free := by decide +kernel
  have hreaders : ∀ l, ¬ Entry.free.readers.get l = true := by decide
  have huse : ∀ d slot, (base.entry d slot).use ≠ .filling ∧ (base.entry d slot).copyReaders = 0 := by decide +kernel
  refine ⟨by decide +kernel, fun d v h => by rw [base_volumes d v h]; decide +kernel, fun d slot => ?_,
    fun c => ?_, ?_⟩
  · rcases hfree d slot with ⟨rfl, h⟩ | h
    · exact hlive ⟨slot.val, h⟩
    · by_cases hs : d = 1 ∧ slot.val < 6
      · obtain ⟨rfl, hs⟩ := hs
        exact hlive ⟨slot.val, hs⟩
      · have hno : ∀ l k x, base.handle l k = x → x.claims d slot = false := by
          rintro l k _ rfl
          have := hnone l k
          simp only [List.mem_cons, List.not_mem_nil, or_false] at this
          rcases this with e | e | e | e | e | e | e | e <;> rw [e] <;>
            simp only [Handle.claims, reduceCtorEq, Bool.or_eq_false_iff, beq_eq_false_iff_ne, ne_eq,
              Handle.edit.injEq, Handle.read.injEq, Handle.waiting.injEq, not_false_eq_true, and_self, and_true, true_and] <;>
            rintro ⟨rfl, rfl⟩ <;> exact hs (by decide)
        refine ⟨by rw [h]; unfold Entry.ClaimsSound; decide, fun l => ?_⟩
        simp only [ClaimsAgree, h]
        refine ⟨⟨fun hr => absurd hr (hreaders l), ?_⟩, ⟨by simp [Entry.free], ?_⟩, ⟨by simp [Entry.free], ?_⟩, fun k _ hk => ?_⟩
        · rintro ⟨k, hk⟩; simpa [Handle.claims] using hno l k _ hk
        · rintro ⟨k, hk⟩; simpa [Handle.claims] using hno l k _ hk
        · rintro ⟨k, hk⟩; simpa [Handle.claims] using hno l k _ hk
        · rw [hno l k _ rfl] at hk; cases hk
  · intro hp; simp [CopyContext.inProgress, hcopy] at hp
  · intro d slot
    have hnot : (CopyPhase.free == CopyPhase.readStep || CopyPhase.free == CopyPhase.writeStep) = false := by decide
    simp [huse, CopyContext.copiesFrom, CopyContext.copiesTo, CopyContext.inProgress, hcopy, hnot, List.countP_false]

/-! ## Invariants checked on a state -/

/-- `QueueSound` as a check. -/
def queueCheck (x : Drive) : Bool :=
  decide (x.queue.length ≤ 12) && decide (x.queue.countP WorkItem.isCatalogueWrite ≤ 1) &&
    (match x.status, x.queue with
      | .mounted, q => q.all fun i => !i.isFormat
      | .releasing, q => q.all fun i => !i.isFormat
      | .formatting, [i] => i.isFormat && i.begun
      | .formatting, _ => false
      | _, q => q.isEmpty) &&
    (x.buffer.commitWaiters.isEmpty || x.head == .wait .flush || x.head == .run .flush) &&
    (!x.formatMount || x.status == .mounting)

/-- `DeskSound` as a check. -/
def deskCheck (s : State) (l : LineNo) : Bool :=
  (decide ((s.line l).state = .upBusy) == (s.desk l).outstanding.isSome) &&
    match (s.desk l).outstanding, (s.desk l).leftover with
    | some o, k => s.workOf l == [o.kind] && k.isNone
    | none, some .sectorItem => s.workOf l == [.read] || s.workOf l == [.write]
    | none, some .format => s.workOf l == [.format]
    | none, some .recover => s.workOf l == [.recover]
    | none, none => (s.workOf l).isEmpty

/-- `HeadSound` as a check. -/
def headCheck (x : Drive) : Bool :=
  x.status.admits (x.recover == some .running) x.head &&
    (match x.status with
      | .mounted | .releasing => if x.head.holdsTrack then x.buffer.isOpen else x.buffer == .empty
      | .faulted =>
        (x.buffer == .empty || (x.buffer.isRetained && x.faultOrigin == .mountedVolume)) &&
          (!(x.head.holdsTrack || x.motion.isSeek) || x.buffer != .empty)
      | _ => x.buffer == .empty) &&
    (x.buffer == .empty || x.buffer.records.length == 15) && (x.motion == .still || x.head == .seek) &&
    (x.recover.isNone || x.status == .faulted)

/-- The channel's share of `ChannelSound` as a check. -/
def holderCheck (s : State) : Bool :=
  match s.channel.holder with
  | none => true
  | some (d, .fill _ _ _ rs) => s.channel.lastGranted == d && rs.length == 15
  | some (d, _) => s.channel.lastGranted == d

theorem queueSound_of_check {x : Drive} (h : queueCheck x = true) : QueueSound x := by
  simp only [queueCheck, Bool.and_eq_true, decide_eq_true_eq] at h
  obtain ⟨⟨⟨⟨h1, h2⟩, h3⟩, h4⟩, h5⟩ := h
  refine ⟨h1, h2, ?_, ?_, ?_⟩
  · revert h3
    rcases x.status <;> rcases hq : x.queue with _ | ⟨i, _ | ⟨j, q⟩⟩ <;> simp_all
  · intro hw
    simp_all [List.isEmpty_iff]
  · intro hf
    simp_all

theorem deskSound_of_check {s : State} {l : LineNo} (h : deskCheck s l = true) : DeskSound s l := by
  simp only [deskCheck, Bool.and_eq_true] at h
  refine ⟨?_, ?_⟩
  · have h1 := h.1
    rcases ho : (s.desk l).outstanding <;> simp_all
  · have h2 := h.2
    revert h2
    rcases ho : (s.desk l).outstanding with _ | o <;> rcases hk : (s.desk l).leftover with _ | (_ | _ | _) <;>
      simp_all [List.isEmpty_iff]

theorem headSound_of_check {x : Drive} (h : headCheck x = true) : x.HeadSound := by
  simp only [headCheck, Bool.and_eq_true] at h
  obtain ⟨⟨⟨⟨h1, h2⟩, h3⟩, h4⟩, h5⟩ := h
  refine ⟨h1, ?_, ?_, ?_, ?_⟩
  · revert h2
    unfold Drive.BufferSound
    cases x.status <;> simp_all
    rintro h (⟨a, b⟩ | h') <;> simp_all
  · intro hb; simp_all
  · intro hm; simp_all
  · intro hr; rcases hx : x.recover <;> simp_all

/-- A state passes the checks of heads and work. -/
def StateChecks (s : State) : Prop :=
  ((∀ d, headCheck (s.drive d) = true) ∧ (∀ d, (s.jobOf d).map Job.purpose = (s.drive d).head.runs) ∧
    holderCheck s = true ∧ ∀ d, (s.drive d).head.waits = true → s.channel.holder ≠ none) ∧
  (∀ d, queueCheck (s.drive d) = true) ∧ (∀ d, ReleaseItemSound s d) ∧ (∀ c, ContextWorkSound s c) ∧ ∀ l, deskCheck s l = true

theorem sound_of_checks {s : State} (h : StateChecks s) : HeadsSound s ∧ WorkSound s := by
  obtain ⟨⟨hd, hj, hh, hw⟩, hq, hr, hc, hl⟩ := h
  refine ⟨⟨fun d => headSound_of_check (hd d), hj, ?_, hw, ?_⟩, fun d => ⟨queueSound_of_check (hq d), hr d⟩, hc,
    fun l => deskSound_of_check (hl l)⟩
  · intro d j e
    simp only [holderCheck, e] at hh
    rcases j <;> simp_all
  · intro d t k n rs e
    simp only [holderCheck, e] at hh
    simp_all

/-! ## States with work in hand -/

/-- A desk busy with an outstanding request. -/
def busyWith (s : State) (l : LineNo) (kind : OutstandingKind) : State :=
  (s.onDesk l fun k => { k with outstanding := some ⟨kind, 7⟩ }).onLine l fun x => { x with state := .upBusy }

/-- Drive 1 flushes its track for desk 2's commit WRITE. -/
def committing : State := busyWith (working 1 .mounted (.run .flush) (.opened 3 oneDirty [2]) (.flush 3 [1] 0)) 2 .write

/-- Drive 1 flushes for desk 2's commit WRITE, desk 3's CLOSE and desk 4's COPY, and unloads after it or not. -/
def flushing (unloading : Bool) : State :=
  ((((busyWith (busyWith committing 3 .close) 4 .copy).onVolume 1 fun v => { v with flushList := [.desk 3, .context 0] }).onContext 0
    fun x => { x with phase := .commitWait, desk := 4, wanted := true, destDrive := 1, destSlot := 6 }).onDrive 1 fun x =>
      { x with unloading := unloading })

/-- Drive 1 seeks for an item of desk 2. -/
def seekingFor (kind : OutstandingKind) (w : Work) (begun : Bool) : State :=
  (busyWith base 2 kind).onDrive 1 fun x => { x with head := .seek, queue := [⟨w, begun⟩] }

/-- Desk 2's CLOSE waits for the next render. -/
def closing : State := (busyWith base 2 .close).onVolume 1 fun v => { v with nextRender := [.desk 2] }

/-- Desk 2's COPY, in its first step or waiting for its commit. -/
def copyOf (waiting : Bool) : State :=
  if waiting then
    ((busyWith base 2 .copy).onVolume 1 fun v => { v with nextRender := [.context 0] }).onContext 0 fun x =>
      { x with phase := .commitWait, desk := 2, wanted := true, destDrive := 1, destSlot := 6 }
  else
    (seekingFor .copy (.copyRead 0 2 0 8) false).onContext 0 fun x =>
      { x with
        phase := .readStep, desk := 2, wanted := true, sourceDrive := 1, sourceSlot := 2, destDrive := 1, destSlot := 6, length := 1 }

/-- Drive 2 formats for desk 0 at a position, its head in a status; drive 1 holds the channel where the head waits. -/
def formattingAt (position : Nat) (h : HeadStatus) : State :=
  let s := if h = .wait .lay then committing else base
  let t := (busyWith s 0 .format).onDrive 2 fun x =>
    { x with
      status := .formatting, doorLock := true, head := h, queue := [⟨.format (List.replicate 8 0x41) 7 position false, true⟩] }
  if h = .run .lay then { t with channel := ⟨some (2, .lay 0 true), 2⟩ } else t

/-- Drive 2 makes the mount that ends desk 0's FORMAT. -/
def formatMounting : State :=
  (busyWith base 0 .format).onDrive 2 fun x => { x with status := .mounting, doorLock := true, head := .seek, formatMount := true }

/-- Drive 3 recalibrates for desk 0's RECOVER. -/
def recoveringDrive : State :=
  (busyWith base 0 .recover).onDrive 3 fun x => { x with recover := some .running, head := .seek, motion := .recalibrating 6 20 }

/-- Each kind of outstanding request with its work where it can stand. -/
def workStates : List State :=
  [base, committing, closing, copyOf true, copyOf false, formatMounting, recoveringDrive, flushing false, flushing true,
    seekingFor .read (.sectorRead 2 0 0 0 100) false, seekingFor .read (.sectorRead 2 0 0 0 100) true,
    seekingFor .write (.sectorWrite 2 0 0 0 100 5 false none) true, formattingAt 3 .seek, formattingAt 3 (.wait .lay),
    formattingAt 153 (.run .lay), formattingAt 154 (.run .lay), formattingAt 154 (.wait .lay)]

theorem witness_workStates : ∀ s ∈ workStates, HeadsSound s ∧ WorkSound s := by
  have h : ∀ s ∈ workStates, StateChecks s := by
    unfold StateChecks ReleaseItemSound ContextWorkSound
    decide +kernel
  exact fun s hs => sound_of_checks (h s hs)

theorem witness_SilenceWork :
    (∀ s ∈ workStates, (s.line 2).silence ≠ none ∧ (s.line 0).silence ≠ none) ∧
      (copyOf true).carries 0 2 = true ∧ ((copyOf true).context 0).phase = .commitWait ∧ (copyOf false).carries 0 2 = true ∧
      ((copyOf false).context 0).inProgress = true ∧ (∀ d, (formatMounting.drive d).status ≠ .formatting) ∧
      (∀ d, ((formattingAt 154 (.run .lay)).drive d).status = .formatting ↔ d = 2) ∧
      ((formattingAt 154 (.run .lay)).drive 2).head = .run .lay ∧ ((formattingAt 154 (.wait .lay)).drive 2).head = .wait .lay := by
  decide +kernel

theorem witness_HaltWork :
    (∀ s ∈ workStates, Quiet s ∧ LineFree s 0 ∧ LineFree s 2) ∧
      (∀ s ∈ [committing, closing, copyOf true, copyOf false, seekingFor .read (.sectorRead 2 0 0 0 100) true],
        (s.line 2).state = .upBusy) ∧
      (∀ s ∈ [formatMounting, recoveringDrive, formattingAt 3 .seek], (s.line 0).state = .upBusy) ∧
      (∀ d, ((seekingFor .read (.sectorRead 2 0 0 0 100) true).drive d).queue.any (fun i => i.waitingRead 2) = false) ∧
      ∀ b, (copyOf false).carries b 2 = true → b = 0 := by
  unfold Quiet LineFree; decide +kernel

theorem witness_EndsAtDrive :
    (flushing false).hasUnitWork 2 1 = true ∧ (flushing false).hasWait 3 1 = true ∧ (flushing false).hasWait 4 1 = true ∧
      (copyOf false).hasCopy 2 1 = true ∧ (formattingAt 3 .seek).hasUnitWork 0 2 = true ∧ recoveringDrive.hasUnitWork 0 3 = true ∧
      2 ∈ ((flushing false).drive 1).buffer.commitWaiters ∧ (flushing false).volume 1 ≠ none ∧ recoveringDrive.volume 3 = none ∧
      ({ flushing false with choices := [1] } : State).popChoice.1 ≠ 0 ∧ (flushing false).popChoice.1 = 0 ∧
      (∀ h, (base.handle 2 h).claimDrive ≠ some 2) ∧ (base.handle 2 0).claimDrive = some 1 ∧
      ((flushing true).drive 1).unloading = true ∧ ((flushing true).drive 1).status = .mounted ∧
      ((flushing false).volume 1).map Volume.flushList = some [.desk 3, .context 0] ∧ (flushing false).carries 0 4 = true ∧
      (∀ l, (flushing false).carries 1 l = false) := by
  decide +kernel

/-- A slot of 64 octets with a use, a stage, a slug, an extent count, tail octets and extents. -/
def slotWith (use stage c : Byte) (count : Nat) (tail : Nat) (xs : List Extent) : List Byte :=
  let fields := [use, stage] ++ slugOf c ++ [octet count, 255] ++ octets2 tail ++ [0, 1] ++ extentOctets xs
  fields ++ checkMedium fields

theorem witness_LoadedSlots :
    let p : LoadProgress := ⟨[], marksOf [⟨100, 2⟩], [slugOf 0x42]⟩
    let live : List Byte → Bool := fun os => ((loadSlot p os).entries.map Entry.isLive) == [true]
    let damaged : List Byte → Bool := fun os => os.length == 64 && ((loadSlot p os).entries.map Entry.isDamaged) == [true]
    live (slotWith 1 4 0x41 1 512 [⟨2308, 2⟩]) ∧ live (slotWith 1 0 0x41 2 1 [⟨15, 85⟩, ⟨102, 11⟩]) ∧ live (slotWith 1 0 0x41 0 0 []) ∧
      damaged (slotWith 2 0 0x41 0 0 []) ∧ damaged ((slotWith 1 0 0x41 0 0 []).set 63 0xAA) ∧ damaged (slotWith 1 0 0x61 0 0 []) ∧
      damaged (slotWith 1 5 0x41 0 0 []) ∧ damaged (slotWith 1 0 0x41 15 1 ((List.range 14).map fun k => ⟨200 + k, 1⟩)) ∧
      damaged (slotWith 1 0 0x41 1 1 [⟨14, 1⟩]) ∧ damaged (slotWith 1 0 0x41 1 1 [⟨2309, 2⟩]) ∧
      damaged (slotWith 1 0 0x41 2 1 [⟨200, 0⟩, ⟨15, 1⟩]) ∧ damaged (slotWith 1 0 0x41 1 1 [⟨200, 97⟩]) ∧
      damaged (slotWith 1 0 0x41 1 513 [⟨200, 1⟩]) ∧ damaged (slotWith 1 0 0x41 1 0 [⟨200, 1⟩]) ∧ damaged (slotWith 1 0 0x41 0 1 []) ∧
      damaged (slotWith 1 0 0x41 1 1 [⟨99, 2⟩]) ∧ damaged (slotWith 1 0 0x41 2 1 [⟨200, 2⟩, ⟨201, 2⟩]) ∧
      damaged (slotWith 1 0 0x42 0 0 []) := by decide +kernel

theorem witness_HeadsSound : HeadsSound base := (witness_workStates base (by simp [workStates])).1

theorem witness_WorkSound : WorkSound base := (witness_workStates base (by simp [workStates])).2

end Sys2Proof.Tests
end

section
/-! PROOFS. The append allocation of the space unit: the marks of one sector (R74), the search (R77), and what each of the two
allocating steps of R78 gives (R79, R80). -/

namespace Sys2Proof.Machine

/-! ## Marks -/

/-- The ones at the bottom of a map that `extentMarks` shifts to an extent's start. -/
theorem getLsbD_lowOnes (width count n : Nat) (hwidth : width ≠ 0) :
    ((1#width <<< count) - 1#width).getLsbD n = (decide (n < width) && decide (n < count)) := by
  have hpower : 1#width <<< count = BitVec.ofNat width (2 ^ count) := by
    apply BitVec.eq_of_toNat_eq
    rw [← BitVec.twoPow_eq, BitVec.toNat_twoPow, BitVec.toNat_ofNat]
  rw [hpower, BitVec.ofNat_sub_ofNat_of_le _ _ (Nat.one_lt_two_pow hwidth) Nat.one_le_two_pow, BitVec.getLsbD_ofNat,
    Nat.testBit_two_pow_sub_one]

/-- An extent's marks are those of its sectors, as far as the map reaches. -/
theorem getLsbD_extentMarks (x : Extent) (n : Nat) :
    (extentMarks x).getLsbD n = decide (n < 2310 ∧ x.start ≤ n ∧ n < x.start + x.count) := by
  rw [extentMarks, BitVec.getLsbD_shiftLeft, getLsbD_lowOnes _ _ _ (by decide), Bool.eq_iff_iff]
  simp only [Bool.and_eq_true, Bool.not_eq_true', decide_eq_true_eq, decide_eq_false_iff_not]
  omega

theorem marksOf_single (x : Extent) : marksOf [x] = extentMarks x := by simp [marksOf]

/-! ## One sector more for a slot -/

/-- The volume with one free sector taken for a slot, whose entry then has the extents `xs`, and the cursor put to a place: what
both allocating steps of R78 give. -/
def Volume.withSector (v : Volume) (slot : SlotNo) (lsn : Nat) (xs : List Extent) (cursor : Nat) : Volume :=
  { (v.takeExtents [⟨lsn, 1⟩]).setEntry slot { v.entry slot with extents := xs } with cursor := cursor }

section
variable (v : Volume) (slot : SlotNo) (lsn : Nat) (xs : List Extent) (cursor : Nat)

theorem Volume.getLsbD_marks_withSector (h : lsn < 2310) (n : Nat) :
    (v.withSector slot lsn xs cursor).marks.getLsbD n = (v.marks.getLsbD n || decide (n = lsn)) := by
  have hone : (n < 2310 ∧ lsn ≤ n ∧ n < lsn + 1) ↔ n = lsn := by omega
  calc (v.marks ||| marksOf [⟨lsn, 1⟩]).getLsbD n
    _ = (v.marks.getLsbD n || decide (n < 2310 ∧ lsn ≤ n ∧ n < lsn + 1)) := by
      rw [BitVec.getLsbD_or, marksOf_single, getLsbD_extentMarks]
    _ = (v.marks.getLsbD n || decide (n = lsn)) := by simp only [hone]

@[simp] theorem Volume.freeCount_withSector : (v.withSector slot lsn xs cursor).freeCount = v.freeCount - 1 := rfl

@[simp] theorem Volume.cursor_withSector : (v.withSector slot lsn xs cursor).cursor = cursor := rfl

@[simp] theorem Volume.entry_withSector (h : slot.val < v.entries.length) :
    (v.withSector slot lsn xs cursor).entry slot = { v.entry slot with extents := xs } :=
  Volume.entry_setEntry_same (v.takeExtents [⟨lsn, 1⟩]) slot _ h

end

/-! ## The search (R77) -/

theorem nextLsn_of_lt {lsn : Nat} (h : lsn < 2310) : nextLsn lsn = if lsn = 2309 then 15 else lsn + 1 := by
  grind [nextLsn, Config.diskSectors, Config.dataStart]

theorem nextLsn_lt (lsn : Nat) : nextLsn lsn < 2310 := by
  grind [nextLsn, Config.diskSectors, Config.dataStart]

/-- From a sector of the diskette the search finds a sector of the diskette. -/
theorem searchFree_lt {marks : BitVec 2310} {n start lsn : Nat} (hstart : start < 2310)
    (h : searchFree marks n start = some lsn) : lsn < 2310 := by
  induction n generalizing start with
  | zero => simp [searchFree] at h
  | succ n ih =>
    rw [searchFree] at h
    split at h
    · exact ih (nextLsn_lt start) h
    · exact Option.some.inj h ▸ hstart

/-! ## The append allocation (R78) -/

theorem growLast_concat (first : List Extent) (x : Extent) :
    growLast (first ++ [x]) = first ++ [⟨x.start, x.count + 1⟩] := by
  induction first with
  | nil => rfl
  | cons y rest ih =>
    cases rest with
    | nil => rfl
    | cons z zs => exact congrArg (y :: ·) ih

/-- The condition of step 1 of R78, for a last extent `x`. -/
def Volume.canExtend (v : Volume) (x : Extent) : Bool :=
  decide (x.start + x.count < Config.diskSectors) && !v.marks.getLsbD (x.start + x.count) && decide (x.count < Config.maxStory)

theorem Volume.canExtend_iff (v : Volume) (x : Extent) :
    v.canExtend x = true ↔ x.start + x.count < 2310 ∧ v.marks.getLsbD (x.start + x.count) = false ∧ x.count < 96 := by
  simp only [Volume.canExtend, Bool.and_eq_true, Bool.not_eq_true', decide_eq_true_eq, and_assoc]
  exact Iff.rfl

/-- Step 1 of R78 succeeds: the last extent grows, and the cursor stays (R79). -/
theorem Volume.allocateAppend_of_canExtend {v : Volume} {slot : SlotNo} {first : List Extent} {x : Extent}
    (hlast : (v.entry slot).extents = first ++ [x]) (hcan : v.canExtend x = true) :
    v.allocateAppend slot =
      .ok (v.withSector slot (x.start + x.count) (first ++ [⟨x.start, x.count + 1⟩]) v.cursor) := by
  rw [Volume.canExtend] at hcan
  simp only [Volume.allocateAppend, hlast, List.getLast?_concat, hcan, if_true, growLast_concat]
  rfl

/-- Step 4 of R78: no last extent can grow, neither refusal applies, and a new extent is added (R80). -/
theorem Volume.allocateAppend_of_not_canExtend {v : Volume} {slot : SlotNo} {lsn : Nat}
    (hcannot : ∀ first x, (v.entry slot).extents = first ++ [x] → v.canExtend x = false)
    (hcount : (v.entry slot).extents.length < Config.maxExtents)
    (hfound : searchFree v.marks searchSectors v.cursor = some lsn) :
    v.allocateAppend slot = .ok (v.withSector slot lsn ((v.entry slot).extents ++ [⟨lsn, 1⟩]) (nextLsn lsn)) := by
  have hroom : ¬Config.maxExtents ≤ (v.entry slot).extents.length := Nat.not_le.mpr hcount
  cases hlast : (v.entry slot).extents.getLast? with
  | none =>
    simp only [Volume.allocateAppend, hlast, hroom, if_false, hfound]
    rfl
  | some x =>
    obtain ⟨first, hfirst⟩ := List.getLast?_eq_some_iff.mp hlast
    have hno := hcannot first x hfirst
    rw [Volume.canExtend] at hno
    simp only [Volume.allocateAppend, hlast, hno, Bool.false_eq_true, if_false, hroom, hfound]
    rfl

/-- Settles O32: the allocation takes the extending step, whose volume is read off field by field. -/
theorem extensionGrowsTheLastExtent : Obligations.ExtensionGrowsTheLastExtent := by
  intro v slot first x hslot hlast hdisk hfree hroom
  have hcan : v.canExtend x = true := (v.canExtend_iff x).mpr ⟨hdisk, hfree, hroom⟩
  refine ⟨_, Volume.allocateAppend_of_canExtend hlast hcan, ?marks, ?freeCount, ?extents, ?length, ?extentCount, ?cursor⟩
  case marks => exact v.getLsbD_marks_withSector _ _ _ _ hdisk
  case length => simp [hslot, Entry.length, hlast, Nat.add_assoc]
  all_goals simp [hslot, hlast]

/-- Settles O33: the allocation takes the adding step, at a sector the search keeps on the diskette. -/
theorem newExtentAtTheCursor : Obligations.NewExtentAtTheCursor := by
  intro v slot lsn hslot hcount hcursor hblocked hfound
  have hlsn : lsn < 2310 := searchFree_lt hcursor hfound
  have hcannot : ∀ first x, (v.entry slot).extents = first ++ [x] → v.canExtend x = false := by
    intro first x hlast
    rw [← Bool.not_eq_true, v.canExtend_iff]
    rintro ⟨hdisk, hfree, hroom⟩
    rcases hblocked first x hlast with hend | hused | hfull
    · omega
    · simp [hfree] at hused
    · omega
  refine ⟨_, Volume.allocateAppend_of_not_canExtend hcannot hcount hfound,
    ?marks, ?freeCount, ?extents, ?extentCount, ?length, ?cursor⟩
  case marks => exact v.getLsbD_marks_withSector _ _ _ _ hlsn
  case cursor => exact nextLsn_of_lt hlsn
  case length => simp [hslot, Entry.length]
  all_goals simp [hslot]

end Sys2Proof.Machine
end
